-- ==== Sys2Proof/Word.lean ====
section
/-! DEFINITION. The word types of the block: the widths of its stored values (00_scope.md rule R10). -/

namespace Sys2Proof

/-- A frame byte, 8 bits unsigned (R10, R11). -/
abbrev Byte := BitVec 8

/-- A command word, `cmd[15:0]` (R10, R70). -/
abbrev CmdWord := BitVec 16

/-- The data field of a response, `rsp_data[39:0]` (R10, R78). -/
abbrev RspData := BitVec 40

end Sys2Proof
end

