-- ==== Sys2Proof/Syntax.lean ====
section
/-! DEFINITION. The five commands of the opcode map (30_encoding.md rule R71; opcode_table.json), and the notation of
test programs (R76). -/

namespace Sys2Proof

/-- One constructor per row of the opcode map R71. The operand of OPEN is the variant code; it is encoded in 8 bits, and
`Instr.WellFormed` says that it fits. -/
inductive Instr where
  /-- OPEN, the source's `new(pin, variant)` (R190). -/
  | cmdOpen (arg : Nat)
  /-- READ, the source's `read` (R195). -/
  | cmdRead
  /-- TEMP, the source's `temperature` (R176). -/
  | cmdTemp
  /-- HUM, the source's `humidity` (R177). -/
  | cmdHum
  /-- CLOSE, the source's `close` (R199). -/
  | cmdClose
  deriving DecidableEq, Repr

/-- One line of a test program in the syntax of R76, as data. -/
inductive AsmLine where
  /-- `OPEN A`, the same as `OPEN #11`. -/
  | openA
  /-- `OPEN B`, the same as `OPEN #22`. -/
  | openB
  /-- `OPEN #n`, `n` in 0..255. -/
  | openNum (n : Byte)
  /-- `READ`. -/
  | read
  /-- `TEMP`. -/
  | temp
  /-- `HUM`. -/
  | hum
  /-- `CLOSE`. -/
  | close
  /-- `.word 0xNNNN`, any 16-bit word. -/
  | word (w : CmdWord)
  deriving DecidableEq, Repr

end Sys2Proof
end

