-- ==== Sys2Proof/WellFormed.lean ====
section
/-! DEFINITION. Which terms of `Instr` are commands of the machine: the operand of OPEN is an 8-bit number (30_encoding.md
rules R70, R73); the other commands have no operand. -/

namespace Sys2Proof

/-- The operand fits its field `arg`, bits 7:0 (R70). -/
def Instr.wellFormed : Instr → Bool
  | .cmdOpen arg => arg < 256
  | .cmdRead => true
  | .cmdTemp => true
  | .cmdHum => true
  | .cmdClose => true

/-- `Instr.wellFormed` as a proposition. -/
abbrev Instr.WellFormed (i : Instr) : Prop := i.wellFormed = true

end Sys2Proof
end

