-- ==== Sys2Proof/Decode.lean ====
section
/-! DEFINITION. Command words to commands and back (30_encoding.md rules R70 to R76). The word is presented in parallel on
`cmd[15:0]`, so there is no byte order and no length to find (R70, R75). -/

namespace Sys2Proof

/-- Why a word is no command (R74). -/
inductive DecodeReject where
  /-- `op` is 0x00 or at least 0x06. -/
  | unknownOpcode (op : Byte)
  /-- `op` is one of 0x02 to 0x05 and `arg` is not 0x00. -/
  | nonzeroOperand (op arg : Byte)
  deriving DecidableEq, Repr

/-- Bits 15:8 of a command word (R70). -/
def opField (w : CmdWord) : Byte := w.extractLsb' 8 8

/-- Bits 7:0 of a command word (R70). -/
def argField (w : CmdWord) : Byte := w.extractLsb' 0 8

/-- A word is the command of a row exactly when `(w & mask) = match` (R71). -/
def matchesRow (w mask pattern : CmdWord) : Bool := (w &&& mask) == pattern

/-- The decoder: the five comparisons of R71, and a named rejection of every other word (R74, R75). -/
def decode (w : CmdWord) : Except DecodeReject Instr :=
  if matchesRow w 0xFF00#16 0x0100#16 then .ok (.cmdOpen (argField w).toNat)
  else if matchesRow w 0xFFFF#16 0x0200#16 then .ok .cmdRead
  else if matchesRow w 0xFFFF#16 0x0300#16 then .ok .cmdTemp
  else if matchesRow w 0xFFFF#16 0x0400#16 then .ok .cmdHum
  else if matchesRow w 0xFFFF#16 0x0500#16 then .ok .cmdClose
  else if opField w = 0x00#8 ∨ 0x06#8 ≤ opField w then .error (.unknownOpcode (opField w))
  else .error (.nonzeroOperand (opField w) (argField w))

/-- The word of a command: `op` in bits 15:8, `arg` in bits 7:0 (R70, R71). -/
def encode : Instr → CmdWord
  | .cmdOpen arg => 0x01#8 ++ BitVec.ofNat 8 arg
  | .cmdRead => 0x02#8 ++ 0x00#8
  | .cmdTemp => 0x03#8 ++ 0x00#8
  | .cmdHum => 0x04#8 ++ 0x00#8
  | .cmdClose => 0x05#8 ++ 0x00#8

/-- The word a program line stands for; `OPEN A` and `OPEN B` are the only pseudo-forms (R76). -/
def assemble : AsmLine → CmdWord
  | .openA => encode (.cmdOpen 11)
  | .openB => encode (.cmdOpen 22)
  | .openNum n => encode (.cmdOpen n.toNat)
  | .read => encode .cmdRead
  | .temp => encode .cmdTemp
  | .hum => encode .cmdHum
  | .close => encode .cmdClose
  | .word w => w

/-- The command word that the opcode table's numbering gives: a command is one 16-bit word, so its bits are the low 16
bits of `w` below `nbits` (log entry 9). -/
def tableWord (nbits w : Nat) : CmdWord := BitVec.ofNat 16 (w % 2 ^ nbits)

/-- The command the decoder reads from a word given in the opcode table's numbering. -/
def decodeTableWord (nbits w : Nat) : Option Instr :=
  match decode (tableWord nbits w) with
  | .ok i => some i
  | .error _ => none

end Sys2Proof
end

