-- ==== Sys2Proof/Config.lean ====
section
/-! DEFINITION. The constants the spec fixes (00_scope.md rule R8), the parameters it leaves open (R9), and the free
values: inputs under no law and values the spec calls unspecified (93_implementation_defined.md). An `opaque`
constant has no body, so no proof can learn its value. -/

namespace Sys2Proof

/-! ### Fixed constants (R8) -/

/-- Most phases in one sampling pass. -/
abbrev Config.maxPhases : Nat := 85
/-- Tick count at which a phase saturates. -/
abbrev Config.tickSat : Nat := 255
/-- A data phase whose count is strictly greater decodes as 1. -/
abbrev Config.bitThreshold : Nat := 16
/-- Data bits in a complete frame. -/
abbrev Config.frameBits : Nat := 40
/-- Bytes in a frame. -/
abbrev Config.frameBytes : Nat := 5
/-- Microseconds, that is `us_en` pulses, the line is driven low. -/
abbrev Config.tStartUs : Nat := 20000
/-- Microseconds, that is `us_en` pulses, the line is driven high before listening. -/
abbrev Config.tReleaseUs : Nat := 50
/-- Index of the first phase that carries a bit. -/
abbrev Config.firstDataPhase : Nat := 4
/-- Operand of OPEN that selects VariantA. -/
abbrev Config.variantCodeA : Nat := 11
/-- Operand of OPEN that selects VariantB. -/
abbrev Config.variantCodeB : Nat := 22

/-! ### Open parameters (R9, U19 to U23): no definition of the model reads them (log entry 6) -/

/-- `TICK_PERIOD`, the real time between two `poll_en` pulses. -/
opaque Config.tickPeriod : Nat
/-- `US_PERIOD`, the real time between two `us_en` pulses. -/
opaque Config.usPeriod : Nat
/-- `CLK_PERIOD`, the clock period. -/
opaque Config.clkPeriod : Nat
/-- `PIN_ID`, the platform pin the line port is wired to. -/
opaque Config.pinId : Nat
/-- `MIN_READ_INTERVAL`, the least time a host must leave between two READ commands. -/
opaque Config.minReadInterval : Nat

/-! ### The environment in cycle `k`, where State lists no input for it (U10 to U14, log entry 1) -/

/-- `rst` in cycle `k` (U14). -/
opaque Config.freeRst : Nat → Bool
/-- `us_en` in cycle `k` (U12). -/
opaque Config.freeUsEn : Nat → Bool
/-- `poll_en` in cycle `k` (U12). -/
opaque Config.freePollEn : Nat → Bool
/-- `line_in` in cycle `k`, true for High (U10). -/
opaque Config.freeLineIn : Nat → Bool
/-- `init_ok` in cycle `k` (U11). -/
opaque Config.freeInitOk : Nat → Bool
/-- `cmd_valid` in cycle `k` (U13). -/
opaque Config.freeCmdValid : Nat → Bool
/-- `cmd` in cycle `k` (U13). -/
opaque Config.freeCmd : Nat → CmdWord

/-! ### Unspecified output values -/

/-- `rsp_data` of a NoData response visible in cycle `k` (R178, U6, log entry 4). -/
opaque Config.freeNoData : Nat → RspData
/-- What the port `rsp_code` shows in a cycle `k` with `rsp_valid` = 0 (R78, U5, log entry 3). -/
opaque Config.freeRspCode : Nat → BitVec 4
/-- What the port `rsp_data` shows in a cycle `k` with `rsp_valid` = 0 (R78, U5, log entry 3). -/
opaque Config.freeRspData : Nat → RspData

end Sys2Proof
end

