-- ==== Sys2Proof/Machine/State.lean ====
section
/-! DEFINITION. The state of the block (10_state.md rule R20), its reset value (R32), its input and output ports (R24), and
the reasons a step can stop, of which this hardware has none (00_scope.md rule R18). -/

namespace Sys2Proof.Machine

/-- The sequencer state `fsm` (R22). No port shows an encoding of it. -/
inductive Fsm where
  | closed | idle | startLow | releaseHigh | poll | frameReady | failed
  deriving DecidableEq, Repr

/-- The sensor family chosen at OPEN (R26, R86: A = 0, B = 1). -/
inductive Variant where
  | a | b
  deriving DecidableEq, Repr

/-- A line level (R11, R86: Low = 0, High = 1). -/
inductive Level where
  | low | high
  deriving DecidableEq, Repr

/-- Five byte registers, the contents of `buf[0..4]` or `cache[0..4]`, under the field names of R21. -/
structure Frame where
  /-- Index 0, humidity-integer. -/
  humInt : Byte
  /-- Index 1, humidity-fraction. -/
  humFrac : Byte
  /-- Index 2, temperature-integer. -/
  tempInt : Byte
  /-- Index 3, temperature-fraction. -/
  tempFrac : Byte
  /-- Index 4, checksum. -/
  checksum : Byte
  deriving DecidableEq, Repr

/-- The input ports in one clock cycle (R24). `clk` is the step itself. -/
structure Inputs where
  rst : Bool
  usEn : Bool
  pollEn : Bool
  lineIn : Level
  initOk : Bool
  cmdValid : Bool
  cmd : CmdWord
  deriving DecidableEq, Repr

/-- The output ports in one clock cycle (R24). -/
structure Outputs where
  lineOut : Level
  lineOe : Bool
  pull : BitVec 2
  paInit : Bool
  paShutdown : Bool
  cmdReady : Bool
  busy : Bool
  rspValid : Bool
  rspCode : BitVec 4
  rspData : RspData
  deriving DecidableEq, Repr

/-- The complete state of the block, the record of R20, and two fields of the model's own: the input ports of this cycle and
of the cycles to come, and the number of this cycle (log entry 1). -/
structure State where
  /-- The sequencer (R22). -/
  fsm : Fsm
  /-- The sensor family (R26). -/
  variant : Variant
  /-- The cached frame `cache[0..4]` (R21). -/
  cache : Frame
  /-- Set by a Valid READ, cleared by reset and by a successful OPEN (R25). -/
  cacheValid : Bool
  /-- The work buffer `buf[0..4]` (R21). -/
  buf : Frame
  /-- Data bits stored in this pass, 0 to 40 (R27). -/
  bitcnt : BitVec 6
  /-- Index of the current phase, 0 to 85 (R23). -/
  phase : BitVec 7
  /-- Polls counted in this phase (R27). -/
  cnt : BitVec 8
  /-- The previous phase's terminal level (R25, R109). -/
  last : Level
  /-- The pass had a saturated phase (R25). -/
  timeout : Bool
  /-- `us_en` pulses still to wait in the handshake (R27). -/
  dly : BitVec 32
  /-- 1 in the cycle in which a response is visible (R78). -/
  rspValid : Bool
  /-- The response code (R79). -/
  rspCode : BitVec 4
  /-- The response data (R80). -/
  rspData : RspData
  /-- 1 = the block drives the line (R28). -/
  lineOe : Bool
  /-- The level driven while `lineOe` (R28). -/
  lineOut : Level
  /-- 00 None, 01 Up, 10 Down; 11 is never driven (R24, R28). -/
  pull : BitVec 2
  /-- One-cycle request for GPIO bring-up (R28). -/
  paInit : Bool
  /-- One-cycle request for GPIO shut-down (R28). -/
  paShutdown : Bool
  /-- The model's own: the input ports, the head in this cycle (log entry 1). -/
  inputs : List Inputs
  /-- The model's own: the number of this cycle, which indexes the free values (log entry 1). -/
  cycle : Nat
  deriving DecidableEq, Repr

/-- The state right after reset: the values of R32, and for each register R32 leaves unspecified (`variant`, `cache`,
`buf`, `bitcnt`, `phase`, `cnt`, `last`, `dly`, `rsp_code`, `rsp_data`) the value zero, DESIGN CHOICE, log entry 2. -/
def State.reset : State where
  fsm := .closed
  variant := .a
  cache := ⟨0#8, 0#8, 0#8, 0#8, 0#8⟩
  cacheValid := false
  buf := ⟨0#8, 0#8, 0#8, 0#8, 0#8⟩
  bitcnt := 0#6
  phase := 0#7
  cnt := 0#8
  last := .low
  timeout := false
  dly := 0#32
  rspValid := false
  rspCode := 0#4
  rspData := 0#40
  lineOe := false
  lineOut := .high
  pull := 0#2
  paInit := false
  paShutdown := false
  inputs := []
  cycle := 0

/-- This hardware has no fault: the block never traps and never stops (R18, R221), and `step` is total (R210). No
constructor, so no step can end in one (log entry 13). -/
inductive Fault where
  deriving DecidableEq, Repr

/-- Why the model gives no meaning. -/
inductive Refusal where
  /-- An arm of `exec` whose command has no meaning yet. Raised by nobody: every command has its meaning. Safe. -/
  | notModelled (mnemonic : String)
  deriving DecidableEq, Repr

/-- What a step or a meaning answers. -/
abbrev Result := Host.Outcome State Fault Refusal

end Sys2Proof.Machine
end

