-- ==== Sys2Proof/Machine/Ops.lean ====
section
/-! DEFINITION. The shared operations: reading the input ports, passing to the next cycle, the frame stores, `respond` and
`raise` of 00_scope.md rule R13, and reset. -/

namespace Sys2Proof.Machine

/-! ### The input ports -/

/-- The input ports of cycle `k` where State lists none: uninterpreted (U10 to U14, log entry 1). -/
def freeInputs (k : Nat) : Inputs where
  rst := Config.freeRst k
  usEn := Config.freeUsEn k
  pollEn := Config.freePollEn k
  lineIn := if Config.freeLineIn k then .high else .low
  initOk := Config.freeInitOk k
  cmdValid := Config.freeCmdValid k
  cmd := Config.freeCmd k

/-- The input ports in the current cycle, the `I` of `step(S, I)` (R210). -/
def State.input (s : State) : Inputs :=
  match s.inputs with
  | i :: _ => i
  | [] => freeInputs s.cycle

/-- `S' <- S` with the defaults of R210: the response and the two request pulses fall. The cycle's inputs are used up. -/
def State.nextCycle (s : State) : State :=
  { s with
    rspValid := false
    paInit := false
    paShutdown := false
    inputs := s.inputs.tail
    cycle := s.cycle + 1 }

/-- A step with `rst` = 1: every register at its reset value, whatever the state and the other inputs (R32, R250). The
registers R32 leaves unspecified take the values of `State.reset` (log entry 5). -/
def State.applyReset (s : State) : State :=
  { State.reset with
    inputs := s.inputs.tail
    cycle := s.cycle + 1 }

/-! ### The frame stores (R21, R50) -/

/-- Five zero bytes. -/
def Frame.zero : Frame := ⟨0#8, 0#8, 0#8, 0#8, 0#8⟩

/-- `x[i]`, for `i` in 0 to 4 (R13, R21); no rule reads another index (R66). -/
def Frame.get (f : Frame) (i : Nat) : Byte :=
  match i with
  | 0 => f.humInt
  | 1 => f.humFrac
  | 2 => f.tempInt
  | 3 => f.tempFrac
  | _ => f.checksum

/-- `x[i] <- v`, for `i` in 0 to 4 (R13, R21). No store falls outside the five bytes (R135). -/
def Frame.set (f : Frame) (i : Nat) (v : Byte) : Frame :=
  match i with
  | 0 => { f with humInt := v }
  | 1 => { f with humFrac := v }
  | 2 => { f with tempInt := v }
  | 3 => { f with tempFrac := v }
  | 4 => { f with checksum := v }
  | _ => f

/-- The frame as response data, byte 0 in bits 39:32 and byte 4 in bits 7:0 (R54, R80). -/
def Frame.data (f : Frame) : RspData :=
  f.humInt ++ f.humFrac ++ f.tempInt ++ f.tempFrac ++ f.checksum

/-! ### Responses -/

/-- The response codes by name (R79); codes 11 to 15 are never produced. -/
inductive RspCode where
  | ok | valid | incomplete | checksumMismatch | samplingTimeout | initError | configError | notOpen | alreadyOpen
  | noData | illegalCommand
  deriving DecidableEq, Repr

/-- The 4-bit encoding of a response code (R79). -/
def RspCode.bits : RspCode → BitVec 4
  | .ok => 0#4
  | .valid => 1#4
  | .incomplete => 2#4
  | .checksumMismatch => 3#4
  | .samplingTimeout => 4#4
  | .initError => 5#4
  | .configError => 6#4
  | .notOpen => 7#4
  | .alreadyOpen => 8#4
  | .noData => 9#4
  | .illegalCommand => 10#4

/-- `respond(code, data)`: the response is visible in the next cycle (R13, R78). -/
def State.respond (s : State) (c : RspCode) (d : RspData) : State :=
  { s with rspValid := true, rspCode := c.bits, rspData := d }

/-- The data field of an error response visible in cycle `k`: 0, but for NoData, whose 40 bits are unspecified, a free
value (R80, R178, R220, log entry 4). -/
def errorData (e : RspCode) (k : Nat) : RspData :=
  match e with
  | .noData => Config.freeNoData k
  | _ => 0#40

/-- `raise E` (R13), this hardware's only form of exception: an error response and no other change; nothing is saved and
control goes nowhere else (R221). -/
def State.raiseError (s : State) (e : RspCode) : State :=
  s.respond e (errorData e s.cycle)

/-! ### Pull codes (R24, R86) -/

/-- No pull. -/
def pullNone : BitVec 2 := 0#2
/-- Pull-up. -/
def pullUp : BitVec 2 := 1#2
/-- Pull-down, which no rule drives (R24). -/
def pullDown : BitVec 2 := 2#2

end Sys2Proof.Machine
end

