-- ==== Sys2Proof/Machine/Flags.lean ====
section
/-! DEFINITION. The derived predicates and flag computations: readiness (30_encoding.md rule R72), completeness
(41_bit_decoder.md rule R137), the slot rule and the threshold (R132, R133), the checksum (42_checksum_validator.md rule
R150) and the classification of a pass (R153). -/

namespace Sys2Proof.Machine

/-- `fsm` is Closed or Idle, the two resting states. -/
def Fsm.resting : Fsm → Bool
  | .closed => true
  | .idle => true
  | .startLow => false
  | .releaseHigh => false
  | .poll => false
  | .frameReady => false
  | .failed => false

/-- `cmd_ready` (R24, R72). -/
def State.cmdReady (s : State) : Bool := s.fsm.resting

/-- `busy` (R22, R24). -/
def State.busy (s : State) : Bool := !s.cmdReady

/-- A command is accepted in this cycle (R72), which a cycle with `rst` = 1 rules out (R250). -/
def State.accepts (s : State) : Bool := !s.input.rst && s.input.cmdValid && s.cmdReady

/-- `is_slot(p)`: the phase with index `p` carries a bit (R132). -/
def isSlot (p : BitVec 7) : Bool := Config.firstDataPhase ≤ p.toNat && p.toNat % 2 = 0

/-- `bit_of(c)`: the bit a data phase with count `c` carries; strictly above the threshold is 1 (R133). -/
def bitOf (c : BitVec 8) : Bool := Config.bitThreshold < c.toNat

/-- `frame_complete` (R25, R137). -/
def frameComplete (bitcnt : BitVec 6) : Bool := bitcnt.toNat = Config.frameBits

/-- `validate`: byte 4 is the sum of bytes 0 to 3 modulo 256 (R150). -/
def validate (f : Frame) : Bool :=
  f.checksum.toNat = (f.humInt.toNat + f.humFrac.toNat + f.tempInt.toNat + f.tempFrac.toNat) % 256

/-- The tags of a ReadOutcome (R15, R153). -/
inductive ReadOutcome where
  | valid | incomplete | checksumMismatch | samplingTimeout
  deriving DecidableEq, Repr

/-- The response code that carries an outcome (R79). -/
def ReadOutcome.code : ReadOutcome → RspCode
  | .valid => .valid
  | .incomplete => .incomplete
  | .checksumMismatch => .checksumMismatch
  | .samplingTimeout => .samplingTimeout

/-- The classification of a pass from its three results (R153). -/
def classify (bitcnt : BitVec 6) (buf : Frame) (timeout : Bool) : ReadOutcome :=
  if frameComplete bitcnt then
    if validate buf then .valid else .checksumMismatch
  else if timeout then .samplingTimeout
  else .incomplete

end Sys2Proof.Machine
end

