-- ==== Sys2Proof/Machine/BitDecoder.lean ====
section
/-! DEFINITION. The BitDecoder (41_bit_decoder.md): from a phase's count to a bit of the work buffer. It takes no step of its
own; the sampler applies `decodePhase` at every normal phase end (40_signal_sampler.md rule R111). -/

namespace Sys2Proof.Machine

/-- The frame under assembly: the registers `buf` and `bitcnt`. -/
structure Assembly where
  buf : Frame
  bitcnt : BitVec 6
  deriving DecidableEq, Repr

/-- The assembly at the start of a pass (R196). -/
def Assembly.start : Assembly := ⟨Frame.zero, 0#6⟩

/-- `store_bit(b)`: the byte at `bitcnt div 8` is shifted up by one with the new bit at bit 0, and `bitcnt` counts it
(R134). -/
def Assembly.storeBit (a : Assembly) (b : Bool) : Assembly :=
  let i := a.bitcnt.toNat / 8
  { buf := a.buf.set i ((a.buf.get i <<< 1) ||| (if b then 1#8 else 0#8))
    bitcnt := a.bitcnt + 1#6 }

/-- `decode_phase(p, c)`: a slot stores its bit while fewer than 40 are stored; otherwise nothing is written (R131, R132,
R135). -/
def Assembly.decodePhase (a : Assembly) (p : BitVec 7) (c : BitVec 8) : Assembly :=
  if isSlot p && a.bitcnt.toNat < Config.frameBits then a.storeBit (bitOf c) else a

/-- The work registers of a state as an assembly. -/
def State.assembly (s : State) : Assembly := ⟨s.buf, s.bitcnt⟩

end Sys2Proof.Machine
end

