-- ==== Sys2Proof/Machine/Operands.lean ====
section
/-! DEFINITION. The operand of the command set: the variant code of OPEN (30_encoding.md rule R73). READ, TEMP, HUM and CLOSE
have none, and no command names a register or an address (20_memory.md rule R66). -/

namespace Sys2Proof.Machine

/-- The variant a code selects: 11 is A, 22 is B, any other value is unknown (R73). -/
def variantOfCode (arg : Nat) : Option Variant :=
  if arg = Config.variantCodeA then some .a
  else if arg = Config.variantCodeB then some .b
  else none

end Sys2Proof.Machine
end

