-- ==== Sys2Proof/Machine/SensorDriver.lean ====
section
/-! DEFINITION. The SensorDriver's commands that change state (44_sensor_driver.md): OPEN, READ, CLOSE. A meaning answers the
state of the cycle after the one in which the command is accepted (R210, log entry 14). -/

namespace Sys2Proof.Machine

/-- OPEN (R190 to R194): AlreadyOpen, ConfigError, InitError, tested in that order, else the driver is created. The
bring-up request pulses once the first two tests pass. -/
def execOpen (arg : Nat) (s : State) : Result :=
  let t := s.nextCycle
  if s.fsm ≠ .closed then .next (t.raiseError .alreadyOpen)
  else
    match variantOfCode arg with
    | none => .next (t.raiseError .configError)
    | some v =>
      let t := { t with paInit := true }
      if s.input.initOk then
        .next ({ t with variant := v, cacheValid := false, fsm := .idle }.respond .ok 0#40)
      else .next (t.raiseError .initError)

/-- The start of a pass, all at once: the work registers cleared, the line driven Low (R103, R196). -/
def State.startPass (s : State) : State :=
  { s with
    buf := Frame.zero
    bitcnt := 0#6
    timeout := false
    phase := 0#7
    cnt := 0#8
    last := .high
    lineOe := true
    lineOut := .low
    dly := BitVec.ofNat 32 Config.tStartUs
    fsm := .startLow }

/-- READ (R195): NotOpen in Closed (R197), else a pass starts (R196), with no response in this step. -/
def execRead (s : State) : Result :=
  if s.fsm = .closed then .next (s.nextCycle.raiseError .notOpen)
  else .next s.nextCycle.startPass

/-- CLOSE (R199, R200): from Idle the pin is released and shut-down is requested; it always answers Ok. -/
def execClose (s : State) : Result :=
  let t := s.nextCycle
  if s.fsm = .idle then
    .next ({ t with lineOe := false, pull := pullNone, paShutdown := true, fsm := .closed }.respond .ok 0#40)
  else .next (t.respond .ok 0#40)

end Sys2Proof.Machine
end

