-- ==== Sys2Proof/Machine/UnitConverter.lean ====
section
/-! DEFINITION. The UnitConverter (43_unit_converter.md): the four formulas and the commands TEMP and HUM. The results are
integers, tenths of a degree Celsius and tenths of a percent (R170). -/

namespace Sys2Proof.Machine

/-- VariantA temperature in tenths of a degree: `temp_frac` bit 7 is the sign, its low nibble is added in both branches,
its bits 6:4 are ignored (R172). -/
def tempA (ti tf : Byte) : Int :=
  let whole : Int := if tf.getLsbD 7 then -(ti.toNat : Int) - 1 else ti.toNat
  10 * whole + (tf &&& 0x0F#8).toNat

/-- VariantA humidity in tenths of a percent (R173). -/
def humA (hi hf : Byte) : Nat := 10 * hi.toNat + hf.toNat

/-- VariantB temperature in tenths of a degree: sign and magnitude in the frame (R174). -/
def tempB (ti tf : Byte) : Int :=
  let mag : Nat := ((ti &&& 0x7F#8).toNat <<< 8) ||| tf.toNat
  if ti.getLsbD 7 then -(mag : Int) else mag

/-- VariantB humidity in tenths of a percent (R175). -/
def humB (hi hf : Byte) : Nat := (hi.toNat <<< 8) ||| hf.toNat

/-- The temperature of the cached frame by the variant chosen at OPEN (R171, R176). -/
def temperature (v : Variant) (f : Frame) : Int :=
  match v with
  | .a => tempA (f.get 2) (f.get 3)
  | .b => tempB (f.get 2) (f.get 3)

/-- The relative humidity of the cached frame by the variant chosen at OPEN (R171, R177). -/
def humidity (v : Variant) (f : Frame) : Nat :=
  match v with
  | .a => humA (f.get 0) (f.get 1)
  | .b => humB (f.get 0) (f.get 1)

/-- The data of TEMP's Ok response: the temperature as 16-bit two's complement in bits 15:0, zero above (R80, R176). -/
def tempData (v : Variant) (f : Frame) : RspData := (BitVec.ofInt 16 (temperature v f)).setWidth 40

/-- The data of HUM's Ok response: the humidity as 16-bit unsigned in bits 15:0, zero above (R80, R177). -/
def humData (v : Variant) (f : Frame) : RspData := (BitVec.ofNat 16 (humidity v f)).setWidth 40

/-- TEMP (R176, R178). -/
def execTemp (s : State) : Result :=
  if s.fsm = .closed then .next (s.nextCycle.raiseError .notOpen)
  else if s.cacheValid = false then .next (s.nextCycle.raiseError .noData)
  else .next (s.nextCycle.respond .ok (tempData s.variant s.cache))

/-- HUM (R177, R178). -/
def execHum (s : State) : Result :=
  if s.fsm = .closed then .next (s.nextCycle.raiseError .notOpen)
  else if s.cacheValid = false then .next (s.nextCycle.raiseError .noData)
  else .next (s.nextCycle.respond .ok (humData s.variant s.cache))

end Sys2Proof.Machine
end

