-- ==== Sys2Proof/Machine/Dispatch.lean ====
section
/-! DEFINITION. One arm per command (30_encoding.md rule R71, 44_sensor_driver.md rule R210). -/

namespace Sys2Proof.Machine

def exec (i : Instr) (s : State) : Host.Outcome State Fault Refusal :=
  match i with
  | .cmdOpen arg => Sys2Proof.Machine.execOpen arg s
  | .cmdRead => Sys2Proof.Machine.execRead s
  | .cmdTemp => Sys2Proof.Machine.execTemp s
  | .cmdHum => Sys2Proof.Machine.execHum s
  | .cmdClose => Sys2Proof.Machine.execClose s

end Sys2Proof.Machine
end

