-- ==== Sys2Proof/Machine/CommandPort.lean ====
section
/-! DEFINITION. The command port, where this hardware fetches its commands (30_encoding.md rule R72): there is no program
counter and no instruction memory (10_state.md rule R22). -/

namespace Sys2Proof.Machine

/-- Closed and Idle: an accepted word is decoded and run, and an illegal one is answered IllegalCommand before any test of
the state (R74, R210, R228). Without `cmd_valid` nothing but the defaults happens. -/
def commandStep (s : State) : Result :=
  if s.input.cmdValid then
    match decode s.input.cmd with
    | .ok i => exec i s
    | .error _ => .next (s.nextCycle.raiseError .illegalCommand)
  else .next s.nextCycle

/-- A cycle of input ports that presents the command word `w` and nothing else: no reset, no enable, the line High, and
the platform's bring-up succeeding (log entry 9). -/
def commandCycle (w : CmdWord) : Inputs where
  rst := false
  usEn := false
  pollEn := false
  lineIn := .high
  initOk := true
  cmdValid := true
  cmd := w

/-- The state `s` with the word `w` presented on its command port in the current cycle, before the inputs it lists; a busy
block is taken in Idle, where it accepts commands (log entry 9). -/
def State.withCommand (s : State) (w : CmdWord) : State :=
  { s with
    fsm := if s.cmdReady then s.fsm else .idle
    inputs := commandCycle w :: s.inputs }

end Sys2Proof.Machine
end

