-- ==== Sys2Proof/Machine/ChecksumValidator.lean ====
section
/-! DEFINITION. The end of a pass (42_checksum_validator.md): classification, cache commit, response, next sequencer state, all
in one step (R115, R156, R158). -/

namespace Sys2Proof.Machine

/-- `cache[0..4] <- buf[0..4]; cache_valid <- 1`, all five bytes in one step (R156). -/
def State.commitCache (t : State) (buf : Frame) : State :=
  { t with cache := buf, cacheValid := true }

/-- The end of a pass that began its last step in `s`; `t` is the next state as the last poll leaves it. The classification
reads `bitcnt` and `buf` as they stand at the start of the step and `timeout` as written in it (R115, R153). -/
def State.endPass (s t : State) : State :=
  match classify s.bitcnt s.buf t.timeout with
  | .valid => { (t.commitCache s.buf).respond .valid s.buf.data with fsm := .frameReady }
  | .incomplete => { t.raiseError .incomplete with fsm := .failed }
  | .checksumMismatch => { t.raiseError .checksumMismatch with fsm := .failed }
  | .samplingTimeout => { t.raiseError .samplingTimeout with fsm := .failed }

end Sys2Proof.Machine
end

