-- ==== Sys2Proof/Machine/SignalSampler.lean ====
section
/-! DEFINITION. The SignalSampler (40_signal_sampler.md): the handshake and the poll loop, one function per sequencer state.
Each gives the state of the next cycle and reads the state `s` at the start of this one. -/

namespace Sys2Proof.Machine

/-- State StartLow (R104): wait 20000 `us_en` pulses, then drive the line High. -/
def startLowStep (s : State) : State :=
  let t := s.nextCycle
  if s.input.usEn then
    if 1 < s.dly.toNat then { t with dly := s.dly - 1#32 }
    else { t with lineOut := .high, dly := BitVec.ofNat 32 Config.tReleaseUs, fsm := .releaseHigh }
  else t

/-- State ReleaseHigh (R106): wait 50 `us_en` pulses, then let the line go with the pull-up on and listen. -/
def releaseHighStep (s : State) : State :=
  let t := s.nextCycle
  if s.input.usEn then
    if 1 < s.dly.toNat then { t with dly := s.dly - 1#32 }
    else { t with lineOe := false, pull := pullUp, fsm := .poll }
  else t

/-- A poll that finds the level unchanged (R110): count it, and saturate at the 255th. -/
def pollSame (s : State) : State :=
  let t := s.nextCycle
  if s.cnt.toNat < Config.tickSat - 1 then { t with cnt := s.cnt + 1#8 }
  else s.endPass { t with cnt := BitVec.ofNat 8 Config.tickSat, timeout := true }

/-- A poll that finds the level changed (R111): the phase ends, its count may give a bit, and the next phase starts, or the
pass ends with the 85th. -/
def pollChanged (s : State) : State :=
  let a := s.assembly.decodePhase s.phase s.cnt
  let t :=
    { s.nextCycle with
      buf := a.buf
      bitcnt := a.bitcnt
      last := s.input.lineIn
      cnt := 0#8
      phase := s.phase + 1#7 }
  if s.phase.toNat + 1 = Config.maxPhases then s.endPass t else t

/-- State Poll (R109): a cycle with `poll_en` = 1 is one poll of the line. -/
def pollStep (s : State) : State :=
  if s.input.pollEn then
    if s.input.lineIn = s.last then pollSame s else pollChanged s
  else s.nextCycle

/-- States FrameReady and Failed: back to Idle, whatever the inputs (R198). -/
def returnStep (s : State) : State := { s.nextCycle with fsm := .idle }

end Sys2Proof.Machine
end

