-- ==== Sys2Proof/Machine/Step.lean ====
section
/-! DEFINITION. The step function, one rising edge of `clk` (00_scope.md rule R14, 44_sensor_driver.md rule R210). -/

namespace Sys2Proof.Machine

/-- `step(S, I)` of R210, with `I` the input ports that State gives for this cycle. -/
def step (s : State) : Host.Outcome State Fault Refusal :=
  if s.input.rst then .next s.applyReset
  else
    match s.fsm with
    | .closed => commandStep s
    | .idle => commandStep s
    | .startLow => .next (startLowStep s)
    | .releaseHigh => .next (releaseHighStep s)
    | .poll => .next (pollStep s)
    | .frameReady => .next (returnStep s)
    | .failed => .next (returnStep s)

/-- `s` with an instruction, in the opcode table's numbering, where `step` takes its next one: on the command port, in the
current cycle (log entry 9). -/
def State.withFetchWord (s : State) (nbits w : Nat) : State := s.withCommand (tableWord nbits w)

end Sys2Proof.Machine
end

