-- ==== Sys2Proof/Machine/Pass.lean ====
section
/-! DEFINITION. A whole pass as one function of the poll samples (40_signal_sampler.md rule R116), the decoder as a pure
function of the Transition sequence (41_bit_decoder.md rule R140), and READ as one big step (44_sensor_driver.md rule
R212). No step of the machine calls these; they are the spec's second account of the same pass. -/

namespace Sys2Proof.Machine

/-- A Transition (R85, R113): the level held during the phase, its tick count, and the saturation marker. -/
structure Transition where
  level : Level
  count : BitVec 8
  sat : Bool
  deriving DecidableEq, Repr

/-- The variables of `sample_pass` (R116). -/
structure PassState where
  asm : Assembly
  phase : BitVec 7
  cnt : BitVec 8
  last : Level
  trs : List Transition
  polls : Nat
  deriving DecidableEq, Repr

/-- What `sample_pass` returns (R116). -/
structure PassResult where
  trs : List Transition
  buf : Frame
  bitcnt : BitVec 6
  timeout : Bool
  polls : Nat
  deriving DecidableEq, Repr

/-- The start of `sample_pass` (R116). -/
def PassState.start : PassState := ⟨Assembly.start, 0#7, 0#8, .high, [], 0⟩

/-- The body of the loop of `sample_pass` on one sample: go on, or return (R116). -/
def PassState.poll (p : PassState) (w : Level) : PassState ⊕ PassResult :=
  if w = p.last then
    if p.cnt.toNat + 1 = Config.tickSat then
      .inr ⟨p.trs ++ [⟨p.last, BitVec.ofNat 8 Config.tickSat, true⟩], p.asm.buf, p.asm.bitcnt, true, p.polls + 1⟩
    else .inl { p with cnt := p.cnt + 1#8, polls := p.polls + 1 }
  else
    let a := p.asm.decodePhase p.phase p.cnt
    let trs := p.trs ++ [⟨p.last, p.cnt, false⟩]
    if p.phase.toNat + 1 = Config.maxPhases then .inr ⟨trs, a.buf, a.bitcnt, false, p.polls + 1⟩
    else .inl ⟨a, p.phase + 1#7, 0#8, w, trs, p.polls + 1⟩

/-- The loop of `sample_pass` over the samples given; none where they run out before the pass ends. -/
def PassState.run (p : PassState) : List Level → Option PassResult
  | [] => none
  | w :: ws =>
    match p.poll w with
    | .inl q => q.run ws
    | .inr r => some r

/-- `sample_pass(w)` for the samples of a finite list; samples after the end of the pass are not read (R116). -/
def samplePass (ws : List Level) : Option PassResult := PassState.start.run ws

/-- `decode(trs)` from phase `p` on (R140). -/
def decodeTransitionsFrom (p : Nat) (a : Assembly) : List Transition → Assembly
  | [] => a
  | t :: ts =>
    decodeTransitionsFrom (p + 1) (if t.sat then a else a.decodePhase (BitVec.ofNat 7 p) t.count) ts

/-- `decode(trs)`: the bit count and the buffer a Transition sequence gives (R140). -/
def decodeTransitions (trs : List Transition) : Assembly := decodeTransitionsFrom 0 Assembly.start trs

/-- The outcome of a pass (R153, R212). -/
def PassResult.outcome (r : PassResult) : ReadOutcome := classify r.bitcnt r.buf r.timeout

/-- The data of the response a pass gives: the frame if Valid, else 0 (R158, R212). -/
def PassResult.responseData (r : PassResult) : RspData := if r.outcome = .valid then r.buf.data else 0#40

/-- READ as one big step (R212): the registers R212 names, after a pass with result `r` begun in Idle in state `s`. -/
def State.afterRead (s : State) (r : PassResult) : State :=
  { s with
    buf := r.buf
    bitcnt := r.bitcnt
    timeout := r.timeout
    cache := if r.outcome = .valid then r.buf else s.cache
    cacheValid := if r.outcome = .valid then true else s.cacheValid
    lineOe := false
    lineOut := .high
    pull := pullUp
    fsm := .idle }

end Sys2Proof.Machine
end

