-- ==== Sys2Proof/Machine/Waveform.lean ====
section
/-! DEFINITION. The waveform notation of test programs (30_encoding.md rule R76) and the standard test waveform of
95_test_vectors.md. -/

namespace Sys2Proof.Machine

/-- The samples of a waveform written as runs: `H3 L31` is three samples High and 31 Low (R76). -/
def expand (runs : List (Level × Nat)) : List Level := runs.flatMap fun r => List.replicate r.2 r.1

/-- Bit `j` of a frame in order of arrival: bit 0 is the most significant bit of byte 0 (R52, R83). -/
def Frame.bit (f : Frame) (j : Nat) : Bool := f.data.getLsbD (39 - j)

/-- The runs of one data bit in the standard test waveform: `L20 H10` for a 0, `L20 H28` for a 1. -/
def bitRuns (b : Bool) : List (Level × Nat) := [(.low, 20), (.high, if b then 28 else 10)]

/-- The standard test waveform of a frame, with `n` samples of its closing High: `H2 L31 H32`, the 40 bits, `L20`, `H`. -/
def standardWaveform (f : Frame) (n : Nat) : List Level :=
  expand ([(.high, 2), (.low, 31), (.high, 32)] ++ (List.range 40).flatMap (fun j => bitRuns (f.bit j)) ++
    [(.low, 20), (.high, n)])

end Sys2Proof.Machine
end

