-- ==== Sys2Proof/Machine/Views.lean ====
section
/-! DEFINITION. What the outside sees of a state and of a step: the output ports (10_state.md rule R24), the effect on the
line (R28), the Transition a poll emits (40_signal_sampler.md rule R113) and the calls on the source's PinAccess (R108).
None of this is state, and no step reads it (R31, R113). -/

namespace Sys2Proof.Machine

/-- The output ports in this cycle, a function of State alone (R14, R24, R210). While `rsp_valid` = 0 the ports `rsp_code`
and `rsp_data` are unspecified (R78): free values (log entry 3). -/
def State.outputs (s : State) : Outputs where
  lineOut := s.lineOut
  lineOe := s.lineOe
  pull := s.pull
  paInit := s.paInit
  paShutdown := s.paShutdown
  cmdReady := s.cmdReady
  busy := s.busy
  rspValid := s.rspValid
  rspCode := if s.rspValid then s.rspCode else Config.freeRspCode s.cycle
  rspData := if s.rspValid then s.rspData else Config.freeRspData s.cycle

/-- The level the block drives on the line, none where it does not drive it (R28). -/
def State.lineDrive (s : State) : Option Level := if s.lineOe then some s.lineOut else none

/-- The Transition that the step from `s` emits, if any (R110, R111, R113). -/
def State.emitted (s : State) : List Transition :=
  if s.fsm = .poll ∧ s.input.rst = false ∧ s.input.pollEn = true then
    if s.input.lineIn = s.last then
      if s.cnt.toNat < Config.tickSat - 1 then []
      else [⟨s.last, BitVec.ofNat 8 Config.tickSat, true⟩]
    else [⟨s.last, s.cnt, false⟩]
  else []

/-- A call on the PinAccess collaborator (R24, R108). -/
inductive PinCall where
  /-- `set_direction(pin, Output)` for true, `set_direction(pin, Input)` for false. -/
  | setDirection (output : Bool)
  /-- `set_pull(pin, None|Up|Down)`. -/
  | setPull (pull : BitVec 2)
  /-- `write(pin, High|Low)`. -/
  | write (level : Level)
  /-- `read(pin)`. -/
  | read
  /-- `delay_micros(n)`. -/
  | delayMicros (n : Nat)
  /-- `initialize()`. -/
  | bringUp
  /-- `shutdown()`. -/
  | shutdown
  deriving DecidableEq, Repr

/-- The calls that an accepted command stands for: OPEN asks for bring-up (R191), READ starts the low pulse (R103, R108),
CLOSE releases the pin and asks for shut-down (R199). -/
def Instr.pinCalls (i : Instr) (s : State) : List PinCall :=
  match i with
  | .cmdOpen arg => if s.fsm = .closed ∧ (variantOfCode arg).isSome then [.bringUp] else []
  | .cmdRead =>
    if s.fsm = .idle then [.setDirection true, .write .low, .delayMicros Config.tStartUs] else []
  | .cmdTemp => []
  | .cmdHum => []
  | .cmdClose => if s.fsm = .idle then [.setDirection false, .setPull pullNone, .shutdown] else []

/-- The PinAccess calls that the step from `s` stands for (R108). Two calls of one step are simultaneous in this hardware and
R108 fixes no order of them; the list gives them as R108 prints them (DESIGN CHOICE, log entry 10). A reset stands for no
call, although `line_oe` and `pull` change in it: the source has no reset and R108 and R251 name no call for one (DESIGN
CHOICE, log entry 10). -/
def State.pinCalls (s : State) : List PinCall :=
  if s.input.rst then []
  else
    match s.fsm with
    | .closed | .idle =>
      if s.input.cmdValid then
        match decode s.input.cmd with
        | .ok i => Instr.pinCalls i s
        | .error _ => []
      else []
    | .startLow =>
      if s.input.usEn && s.dly.toNat ≤ 1 then [.write .high, .delayMicros Config.tReleaseUs] else []
    | .releaseHigh =>
      if s.input.usEn && s.dly.toNat ≤ 1 then [.setDirection false, .setPull pullUp] else []
    | .poll => if s.input.pollEn then [.read] else []
    | .frameReady | .failed => []

/-- `n` steps from `s`, stopping at a stop; the same as the host interface's `Host.Core.run` of this machine. -/
def run : Nat → State → Result
  | 0, s => .next s
  | n + 1, s =>
    match step s with
    | .next t => run n t
    | .fault f => .fault f
    | .refused r => .refused r

/-- The levels that the polls of a list of Poll cycles sample: `line_in` in the cycles with `poll_en` = 1 (R109). -/
def pollSamples (ins : List Inputs) : List Level := (ins.filter fun i => i.pollEn).map fun i => i.lineIn

/-- What `n` steps from `s` show through a view `f` of each step, in order. -/
def trace {α : Type} (f : State → List α) : Nat → State → List α
  | 0, _ => []
  | n + 1, s =>
    f s ++
      match step s with
      | .next t => trace f n t
      | .fault _ => []
      | .refused _ => []

end Sys2Proof.Machine
end

