-- ==== Sys2Proof/Safety.lean ====
section
/-! DEFINITION. What the claims call a good state (10_state.md rule R33 and the rules it rests on), and when two states cannot
be told apart because they differ only in registers that no rule reads before writing them (R32, U2 to U8). -/

namespace Sys2Proof.Machine

/-- The block drives the handshake: StartLow or ReleaseHigh. -/
def Fsm.handshake : Fsm → Bool
  | .closed => false
  | .idle => false
  | .startLow => true
  | .releaseHigh => true
  | .poll => false
  | .frameReady => false
  | .failed => false

/-- A pass is under way: the source's Sampling, that is StartLow, ReleaseHigh or Poll (R211). -/
def Fsm.sampling : Fsm → Bool
  | .closed => false
  | .idle => false
  | .startLow => true
  | .releaseHigh => true
  | .poll => true
  | .frameReady => false
  | .failed => false

/-- The number of even indices `k` with 4 ≤ `k` < `p` (R33). -/
def slotsBelow (p : Nat) : Nat := ((List.range p).filter fun k => 4 ≤ k ∧ k % 2 = 0).length

/-- This step ends the pass: the saturating poll, or the poll that ends phase 84 (R115). -/
abbrev State.EndsPass (s : State) : Prop :=
  s.fsm = .poll ∧ s.input.rst = false ∧ s.input.pollEn = true ∧
    ((s.input.lineIn = s.last ∧ 254 ≤ s.cnt.toNat) ∨ (s.input.lineIn ≠ s.last ∧ s.phase.toNat = 84))

/-- The outcome of the pass that this step ends, by the classification of R153: `timeout` is 1 after a saturating poll and
unchanged otherwise (R115). -/
def State.passOutcome (s : State) : ReadOutcome :=
  classify s.bitcnt s.buf (if s.input.lineIn = s.last then true else s.timeout)

/-- The invariants of R33, with the clauses of R20, R65, R78, R107, R154 and R191 that an induction over steps needs or that
the same induction gives. -/
structure Inv (s : State) : Prop where
  /-- R33: `bitcnt` ≤ 40. -/
  bitcnt_le : s.bitcnt.toNat ≤ 40
  /-- R33: `phase` ≤ 85. -/
  phase_le : s.phase.toNat ≤ 85
  /-- R33, in Poll: `phase` ≤ 84. -/
  poll_phase : s.fsm = .poll → s.phase.toNat ≤ 84
  /-- R33, in Poll: `cnt` ≤ 254. -/
  poll_cnt : s.fsm = .poll → s.cnt.toNat ≤ 254
  /-- R33, in Poll: `pull` = Up. -/
  poll_pull : s.fsm = .poll → s.pull = pullUp
  /-- R33, R114, in Poll: `last` = High exactly when `phase` is even. -/
  poll_last : s.fsm = .poll → (s.last = .high ↔ s.phase.toNat % 2 = 0)
  /-- R33, in Poll: `bitcnt` counts the slots below `phase`, up to 40. -/
  poll_bitcnt : s.fsm = .poll → s.bitcnt.toNat = min 40 (slotsBelow s.phase.toNat)
  /-- R33, R65: `line_oe` = 1 exactly in StartLow and ReleaseHigh. -/
  drive_iff : s.lineOe = s.fsm.handshake
  /-- R20, R33: in the handshake 1 ≤ `dly` ≤ 20000. -/
  handshake_dly : s.fsm.handshake = true → 1 ≤ s.dly.toNat ∧ s.dly.toNat ≤ 20000
  /-- R33: in StartLow `line_out` = 0. -/
  start_low : s.fsm = .startLow → s.lineOut = .low
  /-- R33: in ReleaseHigh `line_out` = 1. -/
  release_high : s.fsm = .releaseHigh → s.lineOut = .high
  /-- R106: in ReleaseHigh 1 ≤ `dly` ≤ 50. -/
  release_dly : s.fsm = .releaseHigh → s.dly.toNat ≤ 50
  /-- R107, R196: in the handshake the work registers hold what the start of the pass wrote. -/
  handshake_work : s.fsm.handshake = true →
    s.buf = Frame.zero ∧ s.bitcnt = 0#6 ∧ s.phase = 0#7 ∧ s.cnt = 0#8 ∧ s.last = .high
  /-- R154: while a pass is under way no phase has saturated. -/
  sampling_timeout : s.fsm.sampling = true → s.timeout = false
  /-- R33: a valid cache holds a frame that passes the checksum. -/
  cache_checked : s.cacheValid = true → validate s.cache = true
  /-- R33: `pull` is None or Up. -/
  pull_range : s.pull = pullNone ∨ s.pull = pullUp
  /-- R191: in Closed the pull is None. -/
  closed_pull : s.fsm = .closed → s.pull = pullNone
  /-- U7: `line_out` = 1 outside StartLow. -/
  line_high : s.fsm ≠ .startLow → s.lineOut = .high
  /-- R78: no response is visible while a pass is under way. -/
  sampling_silent : s.fsm.sampling = true → s.rspValid = false
  /-- R78, R158: in FrameReady the response is Valid, with the frame that is now cached. -/
  frame_ready : s.fsm = .frameReady →
    s.rspValid = true ∧ s.rspCode = RspCode.valid.bits ∧ s.cacheValid = true ∧ s.rspData = s.cache.data
  /-- R78, R158, R223: in Failed the response is ChecksumMismatch or SamplingTimeout. -/
  failed_code : s.fsm = .failed →
    s.rspValid = true ∧ (s.rspCode = RspCode.checksumMismatch.bits ∨ s.rspCode = RspCode.samplingTimeout.bits)
  /-- R79, R223: a visible response has one of the codes 0 to 10, and never Incomplete. -/
  code_range : s.rspValid = true → s.rspCode.toNat ≤ 10 ∧ s.rspCode ≠ RspCode.incomplete.bits

/-- The two states agree on every register that a rule may still read before it is written, and on all inputs: they may
differ in `variant` in Closed (U2), in `cache` while `cache_valid` = 0 (U3), in the work registers outside a pass (U4, U8),
and in the response while `rsp_valid` = 0 (U5). -/
structure LiveEq (s t : State) : Prop where
  fsm : s.fsm = t.fsm
  cacheValid : s.cacheValid = t.cacheValid
  rspValid : s.rspValid = t.rspValid
  lineOe : s.lineOe = t.lineOe
  lineOut : s.lineOut = t.lineOut
  pull : s.pull = t.pull
  paInit : s.paInit = t.paInit
  paShutdown : s.paShutdown = t.paShutdown
  inputs : s.inputs = t.inputs
  cycle : s.cycle = t.cycle
  variant : s.fsm ≠ .closed → s.variant = t.variant
  cache : s.cacheValid = true → s.cache = t.cache
  response : s.rspValid = true → s.rspCode = t.rspCode ∧ s.rspData = t.rspData
  work : s.fsm.sampling = true →
    s.buf = t.buf ∧ s.bitcnt = t.bitcnt ∧ s.phase = t.phase ∧ s.cnt = t.cnt ∧ s.last = t.last ∧ s.timeout = t.timeout
  dly : s.fsm.handshake = true → s.dly = t.dly

end Sys2Proof.Machine
end

