-- ==== Sys2Proof/Certificates/Slice0/Obligations.lean ====
section
/-! DEFINITION. The statements for the provers. Each docstring names the rule of the spec the statement formalises. A next
state is written out in full, so that it is the statement of the effect and of the frame at once: whatever it does not
name is unchanged. -/

open Sys2Proof Sys2Proof.Machine

/-! ### Encoding -/

/-- R71, R74, R76 and vectors V1 to V6: words of every command and of illegal ones, written out bit by bit. -/
def Obligations.WrittenWordsDecode : Prop :=
  decode 0b0000000100001011#16 = .ok (.cmdOpen 11) ∧
  decode 0b0000000100010110#16 = .ok (.cmdOpen 22) ∧
  decode 0b0000000111111111#16 = .ok (.cmdOpen 255) ∧
  decode 0b0000001000000000#16 = .ok .cmdRead ∧
  decode 0b0000001100000000#16 = .ok .cmdTemp ∧
  decode 0b0000010000000000#16 = .ok .cmdHum ∧
  decode 0b0000010100000000#16 = .ok .cmdClose ∧
  decode 0b0000001000000001#16 = .error (.nonzeroOperand 2#8 1#8) ∧
  decode 0b0000000000000000#16 = .error (.unknownOpcode 0#8) ∧
  decode 0b0000011000000000#16 = .error (.unknownOpcode 6#8)

/-- R70, R71: decoding the word of a well-formed command gives the command back, with every value of its operand. -/
def Obligations.DecodeEncodeRoundTrip : Prop :=
  ∀ i : Instr, i.WellFormed → decode (encode i) = .ok i

/-- R71, R75: a word that decodes is the word of the command it decodes to, which is well-formed; so no word has two
meanings and no bit of a command word is ignored. -/
def Obligations.DecodedWordReencodes : Prop :=
  ∀ (w : CmdWord) (i : Instr), decode w = .ok i → i.WellFormed ∧ encode i = w

/-- R74, R228: exactly the words with `op` = 0, `op` ≥ 6, or `op` in 2 to 5 and `arg` ≠ 0 are illegal, and an illegal word
that is accepted, in Closed or in Idle, is answered IllegalCommand and changes nothing else. -/
def Obligations.IllegalWordsAnswered : Prop :=
  (∀ w : CmdWord, (∃ e, decode w = .error e) ↔
    (w.toNat / 256 = 0 ∨ 6 ≤ w.toNat / 256 ∨ (2 ≤ w.toNat / 256 ∧ w.toNat / 256 ≤ 5 ∧ w.toNat % 256 ≠ 0))) ∧
  (∀ (s : State) (e : DecodeReject), s.input.rst = false → s.input.cmdValid = true →
    (s.fsm = .closed ∨ s.fsm = .idle) → decode s.input.cmd = .error e →
    step s = .next { s with
      inputs := s.inputs.tail, cycle := s.cycle + 1, paInit := false, paShutdown := false, rspValid := true,
      rspCode := 10#4, rspData := 0#40 })

/-! ### The step -/

/-- R72, R210: in a cycle that accepts a word of a command, the step is that command's meaning. -/
def Obligations.StepRunsAcceptedCommand : Prop :=
  ∀ (s : State) (i : Instr), s.input.rst = false → s.input.cmdValid = true → (s.fsm = .closed ∨ s.fsm = .idle) →
    decode s.input.cmd = .ok i → step s = exec i s

/-- R72, log entry 9: a command word put on the port by `withFetchWord` is what the next step runs, from every state. -/
def Obligations.FetchedWordRuns : Prop :=
  ∀ (s : State) (nbits w : Nat) (i : Instr), decodeTableWord nbits w = some i →
    step (s.withFetchWord nbits w) = exec i (s.withFetchWord nbits w) ∧
    ((s.fsm = .closed ∨ s.fsm = .idle) → (s.withFetchWord nbits w).fsm = s.fsm)

/-- R210, R18: the step is total; it never faults and never refuses. -/
def Obligations.StepAlwaysAnswersNext : Prop :=
  ∀ s : State, ∃ t, step s = .next t ∧ t.inputs = s.inputs.tail ∧ t.cycle = s.cycle + 1

/-- R102: which inputs the states of a pass read. StartLow and ReleaseHigh read `us_en` alone, Poll reads `poll_en` and, when
it is 1, `line_in`; a cycle in which that enable is 0 changes nothing but the three pulses. -/
def Obligations.PassReadsOnlyItsInputs : Prop :=
  (∀ (s : State) (i j : Inputs) (r : List Inputs), (s.fsm = .startLow ∨ s.fsm = .releaseHigh) →
    i.rst = false → j.rst = false → i.usEn = j.usEn →
    step { s with inputs := i :: r } = step { s with inputs := j :: r }) ∧
  (∀ (s : State) (i j : Inputs) (r : List Inputs), s.fsm = .poll →
    i.rst = false → j.rst = false → i.pollEn = j.pollEn → (i.pollEn = true → i.lineIn = j.lineIn) →
    step { s with inputs := i :: r } = step { s with inputs := j :: r }) ∧
  (∀ s : State, s.input.rst = false →
    ((s.fsm = .startLow ∨ s.fsm = .releaseHigh) ∧ s.input.usEn = false ∨ s.fsm = .poll ∧ s.input.pollEn = false) →
    step s = .next { s with
      inputs := s.inputs.tail, cycle := s.cycle + 1, rspValid := false, paInit := false, paShutdown := false })

/-- R250: a step with `rst` = 1 gives the reset state of R32, whatever the state and the other inputs: a command presented
in that cycle gets no response. Nothing is said of the registers R32 leaves unspecified (log entry 5). -/
def Obligations.ResetStep : Prop :=
  ∀ s : State, s.input.rst = true →
    ∃ t, step s = .next t ∧ t.fsm = .closed ∧ t.cacheValid = false ∧ t.timeout = false ∧ t.rspValid = false ∧
      t.lineOe = false ∧ t.lineOut = .high ∧ t.pull = 0#2 ∧ t.paInit = false ∧ t.paShutdown = false ∧
      t.cmdReady = true ∧ t.inputs = s.inputs.tail

/-- R32: what reset leaves in the registers whose reset value the spec gives. -/
def Obligations.ResetLeavesSpecValues : Prop :=
  State.reset.fsm = .closed ∧ State.reset.cacheValid = false ∧ State.reset.timeout = false ∧
  State.reset.rspValid = false ∧ State.reset.lineOe = false ∧ State.reset.lineOut = .high ∧
  State.reset.pull = 0#2 ∧ State.reset.paInit = false ∧ State.reset.paShutdown = false

/-- R211: every change of `fsm`, and nothing else changes it. In states that meet the invariant: the table names `dly` = 1
and `cnt` = 254, which unreachable states miss. -/
def Obligations.ControlTransfer : Prop :=
  ∀ s t : State, Inv s → step s = .next t →
    t.fsm =
      if s.input.rst = true then .closed
      else
        match s.fsm with
        | .closed =>
          if s.input.cmdValid = true ∧ s.input.initOk = true ∧
            (s.input.cmd = 0x010B#16 ∨ s.input.cmd = 0x0116#16) then .idle else .closed
        | .idle =>
          if s.input.cmdValid = true ∧ s.input.cmd = 0x0200#16 then .startLow
          else if s.input.cmdValid = true ∧ s.input.cmd = 0x0500#16 then .closed
          else .idle
        | .startLow => if s.input.usEn = true ∧ s.dly = 1#32 then .releaseHigh else .startLow
        | .releaseHigh => if s.input.usEn = true ∧ s.dly = 1#32 then .poll else .releaseHigh
        | .poll =>
          if s.input.pollEn = true ∧
            ((s.input.lineIn = s.last ∧ s.cnt = 254#8) ∨ (s.input.lineIn ≠ s.last ∧ s.phase = 84#7)) then
            if s.passOutcome = .valid then .frameReady else .failed
          else .poll
        | .frameReady => .idle
        | .failed => .idle

/-- R77: every accepted command produces exactly one response and nothing else produces one. Commands accepted and not yet
answered before a step, with the one it accepts, are those answered by it and those not yet answered after it: the
unanswered command is the READ of the pass under way. -/
def Obligations.OneResponsePerCommand : Prop :=
  ∀ s t : State, s.input.rst = false → step s = .next t →
    s.accepts.toNat + s.fsm.sampling.toNat = t.rspValid.toNat + t.fsm.sampling.toNat

/-- R78: when a response is visible: in the cycle after the acceptance of anything but a READ in Idle, and in the cycle in
which `fsm` is FrameReady or Failed. -/
def Obligations.ResponseTiming : Prop :=
  ∀ s t : State, s.input.rst = false → step s = .next t →
    (t.rspValid = true ↔
      (s.accepts = true ∧ ¬(s.fsm = .idle ∧ s.input.cmd = 0x0200#16)) ∨ t.fsm = .frameReady ∨ t.fsm = .failed)

/-- R28, R190, R199: the two request pulses last the one cycle after the command that causes them is accepted. -/
def Obligations.RequestPulses : Prop :=
  ∀ s t : State, step s = .next t →
    (t.paInit = true ↔ s.input.rst = false ∧ s.input.cmdValid = true ∧ s.fsm = .closed ∧
      (s.input.cmd = 0x010B#16 ∨ s.input.cmd = 0x0116#16)) ∧
    (t.paShutdown = true ↔ s.input.rst = false ∧ s.input.cmdValid = true ∧ s.fsm = .idle ∧ s.input.cmd = 0x0500#16)

/-- R24, R28, R210: the output ports are functions of the state; the line is driven only while `line_oe` = 1. -/
def Obligations.OutputPorts : Prop :=
  ∀ s : State,
    (s.outputs.cmdReady = true ↔ s.fsm = .closed ∨ s.fsm = .idle) ∧
    s.outputs.busy = !s.outputs.cmdReady ∧
    (s.lineOe = false → s.lineDrive = none) ∧ (s.lineOe = true → s.lineDrive = some s.lineOut) ∧
    s.outputs.lineOe = s.lineOe ∧ s.outputs.lineOut = s.lineOut ∧ s.outputs.pull = s.pull ∧
    s.outputs.paInit = s.paInit ∧ s.outputs.paShutdown = s.paShutdown ∧ s.outputs.rspValid = s.rspValid ∧
    (s.rspValid = true → s.outputs.rspCode = s.rspCode ∧ s.outputs.rspData = s.rspData)

/-! ### The commands -/

/-- R190, R193, R194: OPEN in every state and with every operand. -/
def Obligations.OpenInEveryState : Prop :=
  ∀ (s : State) (arg : Nat),
    (s.fsm ≠ .closed →
      exec (.cmdOpen arg) s = .next { s with
        inputs := s.inputs.tail, cycle := s.cycle + 1, paInit := false, paShutdown := false, rspValid := true,
        rspCode := 8#4, rspData := 0#40 }) ∧
    (s.fsm = .closed → arg ≠ 11 → arg ≠ 22 →
      exec (.cmdOpen arg) s = .next { s with
        inputs := s.inputs.tail, cycle := s.cycle + 1, paInit := false, paShutdown := false, rspValid := true,
        rspCode := 6#4, rspData := 0#40 }) ∧
    (s.fsm = .closed → (arg = 11 ∨ arg = 22) → s.input.initOk = false →
      exec (.cmdOpen arg) s = .next { s with
        inputs := s.inputs.tail, cycle := s.cycle + 1, paInit := true, paShutdown := false, rspValid := true,
        rspCode := 5#4, rspData := 0#40 }) ∧
    (s.fsm = .closed → (arg = 11 ∨ arg = 22) → s.input.initOk = true →
      exec (.cmdOpen arg) s = .next { s with
        inputs := s.inputs.tail, cycle := s.cycle + 1, paInit := true, paShutdown := false, rspValid := true,
        rspCode := 0#4, rspData := 0#40, variant := if arg = 11 then .a else .b, cacheValid := false, fsm := .idle })

/-- R103, R196, R197: READ in its two states: it starts a pass in Idle, and answers NotOpen in Closed. -/
def Obligations.ReadInEveryState : Prop :=
  ∀ s : State,
    (s.fsm = .idle →
      exec .cmdRead s = .next { s with
        inputs := s.inputs.tail, cycle := s.cycle + 1, paInit := false, paShutdown := false, rspValid := false,
        buf := ⟨0#8, 0#8, 0#8, 0#8, 0#8⟩, bitcnt := 0#6, timeout := false, phase := 0#7, cnt := 0#8, last := .high,
        lineOe := true, lineOut := .low, dly := 20000#32, fsm := .startLow }) ∧
    (s.fsm = .closed →
      exec .cmdRead s = .next { s with
        inputs := s.inputs.tail, cycle := s.cycle + 1, paInit := false, paShutdown := false, rspValid := true,
        rspCode := 7#4, rspData := 0#40 })

/-- R176: TEMP in every state. The data of a NoData response is unspecified. -/
def Obligations.TempInEveryState : Prop :=
  ∀ s : State,
    (s.fsm = .closed →
      exec .cmdTemp s = .next { s with
        inputs := s.inputs.tail, cycle := s.cycle + 1, paInit := false, paShutdown := false, rspValid := true,
        rspCode := 7#4, rspData := 0#40 }) ∧
    (s.fsm ≠ .closed → s.cacheValid = false →
      ∃ d, exec .cmdTemp s = .next { s with
        inputs := s.inputs.tail, cycle := s.cycle + 1, paInit := false, paShutdown := false, rspValid := true,
        rspCode := 9#4, rspData := d }) ∧
    (s.fsm ≠ .closed → s.cacheValid = true →
      exec .cmdTemp s = .next { s with
        inputs := s.inputs.tail, cycle := s.cycle + 1, paInit := false, paShutdown := false, rspValid := true,
        rspCode := 0#4,
        rspData := BitVec.ofNat 40 (((if s.variant = .a then tempA s.cache.tempInt s.cache.tempFrac else tempB s.cache.tempInt s.cache.tempFrac) % 65536).toNat) })

/-- R177: HUM in every state. The data of a NoData response is unspecified. -/
def Obligations.HumInEveryState : Prop :=
  ∀ s : State,
    (s.fsm = .closed →
      exec .cmdHum s = .next { s with
        inputs := s.inputs.tail, cycle := s.cycle + 1, paInit := false, paShutdown := false, rspValid := true,
        rspCode := 7#4, rspData := 0#40 }) ∧
    (s.fsm ≠ .closed → s.cacheValid = false →
      ∃ d, exec .cmdHum s = .next { s with
        inputs := s.inputs.tail, cycle := s.cycle + 1, paInit := false, paShutdown := false, rspValid := true,
        rspCode := 9#4, rspData := d }) ∧
    (s.fsm ≠ .closed → s.cacheValid = true →
      exec .cmdHum s = .next { s with
        inputs := s.inputs.tail, cycle := s.cycle + 1, paInit := false, paShutdown := false, rspValid := true,
        rspCode := 0#4,
        rspData := BitVec.ofNat 40 (if s.variant = .a then humA s.cache.humInt s.cache.humFrac else humB s.cache.humInt s.cache.humFrac) })

/-- R199: CLOSE in its two states: from Idle it releases the pin and asks for shut-down; it always answers Ok. -/
def Obligations.CloseInEveryState : Prop :=
  ∀ s : State,
    (s.fsm = .idle →
      exec .cmdClose s = .next { s with
        inputs := s.inputs.tail, cycle := s.cycle + 1, paInit := false, paShutdown := true, rspValid := true,
        rspCode := 0#4, rspData := 0#40, lineOe := false, pull := 0#2, fsm := .closed }) ∧
    (s.fsm = .closed →
      exec .cmdClose s = .next { s with
        inputs := s.inputs.tail, cycle := s.cycle + 1, paInit := false, paShutdown := false, rspValid := true,
        rspCode := 0#4, rspData := 0#40 })

/-- R200: any number of CLOSE commands in a row, at least one, leave the state that one leaves, but for the shut-down pulse
of the first and the passing of the cycles. -/
def Obligations.CloseIsIdempotent : Prop :=
  ∀ (s t : State) (ins r : List Inputs), (s.fsm = .closed ∨ s.fsm = .idle) →
    (∀ i ∈ ins, i.rst = false ∧ i.cmdValid = true ∧ i.cmd = 0x0500#16) → ins ≠ [] →
    exec .cmdClose s = .next t →
    run ins.length { s with inputs := ins ++ r } =
      .next { t with
        paShutdown := if ins.length = 1 then t.paShutdown else false, inputs := r, cycle := s.cycle + ins.length }

/-- R57: with no READ and no OPEN between them, any number of TEMP and HUM commands in any order, and any idle cycles, change
no state but the response and the request pulses, and TEMP and HUM go on giving the same response (whose data is
unspecified if it is NoData); a poll of the line has no effect on the line. -/
def Obligations.AccessorsArePure : Prop :=
  (∀ (s : State) (ins r : List Inputs), (s.fsm = .closed ∨ s.fsm = .idle) →
    (∀ i ∈ ins, i.rst = false ∧ (i.cmdValid = true → i.cmd = 0x0300#16 ∨ i.cmd = 0x0400#16)) →
    ∃ t, run ins.length { s with inputs := ins ++ r } = .next t ∧
      t = { s with
        rspValid := t.rspValid, rspCode := t.rspCode, rspData := t.rspData, paInit := t.paInit,
        paShutdown := t.paShutdown, inputs := r, cycle := s.cycle + ins.length } ∧
      (∀ u v, exec .cmdTemp s = .next u → exec .cmdTemp t = .next v →
        v.rspCode = u.rspCode ∧ (u.rspCode ≠ 9#4 → v.rspData = u.rspData)) ∧
      (∀ u v, exec .cmdHum s = .next u → exec .cmdHum t = .next v →
        v.rspCode = u.rspCode ∧ (u.rspCode ≠ 9#4 → v.rspData = u.rspData))) ∧
  (∀ s t : State, s.fsm = .poll → s.input.rst = false → step s = .next t →
    t.lineOe = s.lineOe ∧ t.lineOut = s.lineOut ∧ t.pull = s.pull)

/-- R192, R26: an OPEN in Idle changes nothing, and the variant never changes while the block is open: without a reset it
changes only in a step from Closed to Idle. -/
def Obligations.VariantImmutableWhileOpen : Prop :=
  (∀ (s : State) (arg : Nat), s.fsm = .idle →
    exec (.cmdOpen arg) s = .next { s with
      inputs := s.inputs.tail, cycle := s.cycle + 1, paInit := false, paShutdown := false, rspValid := true,
      rspCode := 8#4, rspData := 0#40 }) ∧
  (∀ s t : State, s.input.rst = false → step s = .next t → t.variant ≠ s.variant →
    s.fsm = .closed ∧ t.fsm = .idle)

/-- R34, write half, for the commands: what each of the five leaves unchanged. -/
def Obligations.CommandFrames : Prop :=
  ∀ (i : Instr) (s t : State), exec i s = .next t →
    t.cache = s.cache ∧ t.inputs = s.inputs.tail ∧ t.cycle = s.cycle + 1 ∧
    ((∀ arg, i ≠ .cmdOpen arg) → t.variant = s.variant ∧ t.cacheValid = s.cacheValid ∧ t.paInit = false) ∧
    (i ≠ .cmdRead → t.buf = s.buf ∧ t.bitcnt = s.bitcnt ∧ t.phase = s.phase ∧ t.cnt = s.cnt ∧ t.last = s.last ∧
      t.timeout = s.timeout ∧ t.dly = s.dly) ∧
    (i ≠ .cmdRead → i ≠ .cmdClose → t.lineOe = s.lineOe ∧ t.lineOut = s.lineOut ∧ t.pull = s.pull) ∧
    (i = .cmdClose → t.lineOut = s.lineOut) ∧ (i = .cmdRead → t.pull = s.pull) ∧
    (i ≠ .cmdClose → t.paShutdown = false) ∧
    ((i = .cmdTemp ∨ i = .cmdHum) → t.fsm = s.fsm)

/-! ### The handshake and the poll loop -/

/-- R104, R106: the two handshake states, one cycle at a time, and their durations: from the state a READ leaves, the line is
driven Low for exactly 20000 cycles with `us_en` = 1 and then High for exactly 50, whatever the other inputs. -/
def Obligations.HandshakeWaveform : Prop :=
  (∀ s : State, s.fsm = .startLow → s.input.rst = false → s.input.usEn = true →
    (1 < s.dly.toNat → step s = .next { s with
      inputs := s.inputs.tail, cycle := s.cycle + 1, paInit := false, paShutdown := false, rspValid := false,
      dly := s.dly - 1#32 }) ∧
    (¬ 1 < s.dly.toNat → step s = .next { s with
      inputs := s.inputs.tail, cycle := s.cycle + 1, paInit := false, paShutdown := false, rspValid := false,
      lineOut := .high, dly := 50#32, fsm := .releaseHigh })) ∧
  (∀ s : State, s.fsm = .releaseHigh → s.input.rst = false → s.input.usEn = true →
    (1 < s.dly.toNat → step s = .next { s with
      inputs := s.inputs.tail, cycle := s.cycle + 1, paInit := false, paShutdown := false, rspValid := false,
      dly := s.dly - 1#32 }) ∧
    (¬ 1 < s.dly.toNat → step s = .next { s with
      inputs := s.inputs.tail, cycle := s.cycle + 1, paInit := false, paShutdown := false, rspValid := false,
      lineOe := false, pull := 1#2, fsm := .poll })) ∧
  (∀ (s : State) (ins r : List Inputs), s.fsm = .startLow → s.dly = 20000#32 → s.lineOe = true → s.lineOut = .low →
    (∀ i ∈ ins, i.rst = false) →
    ∃ t, run ins.length { s with inputs := ins ++ r } = .next t ∧
      (ins.countP (fun i => i.usEn) < 20000 → t.fsm = .startLow ∧ t.lineOe = true ∧ t.lineOut = .low) ∧
      (20000 ≤ ins.countP (fun i => i.usEn) → ins.countP (fun i => i.usEn) < 20050 →
        t.fsm = .releaseHigh ∧ t.lineOe = true ∧ t.lineOut = .high) ∧
      (ins.countP (fun i => i.usEn) = 20050 → (ins.getLast?.map fun i => i.usEn) = some true →
        t.fsm = .poll ∧ t.lineOe = false ∧ t.lineOut = .high ∧ t.pull = 1#2))

/-- R110: a poll that finds the level unchanged counts it, and the 255th such poll saturates the phase and ends the pass; so
`n` polls at the level only count while the count stays at most 254. -/
def Obligations.PollUnchangedLevel : Prop :=
  (∀ s : State, s.fsm = .poll → s.input.rst = false → s.input.pollEn = true → s.input.lineIn = s.last →
    (s.cnt.toNat < 254 → s.emitted = [] ∧
      step s = .next { s with
        inputs := s.inputs.tail, cycle := s.cycle + 1, paInit := false, paShutdown := false, rspValid := false,
        cnt := s.cnt + 1#8 }) ∧
    (¬ s.cnt.toNat < 254 → s.emitted = [⟨s.last, 255#8, true⟩] ∧
      step s = .next { s with
        inputs := s.inputs.tail, cycle := s.cycle + 1, paInit := false, paShutdown := false, cnt := 255#8,
        timeout := true, rspValid := true, rspCode := (classify s.bitcnt s.buf true).code.bits,
        rspData := if classify s.bitcnt s.buf true = .valid then s.buf.data else 0#40,
        cache := if classify s.bitcnt s.buf true = .valid then s.buf else s.cache,
        cacheValid := if classify s.bitcnt s.buf true = .valid then true else s.cacheValid,
        fsm := if classify s.bitcnt s.buf true = .valid then .frameReady else .failed })) ∧
  (∀ (s : State) (ins r : List Inputs), s.fsm = .poll →
    (∀ i ∈ ins, i.rst = false ∧ i.pollEn = true ∧ i.lineIn = s.last) → ins ≠ [] → s.cnt.toNat + ins.length ≤ 254 →
    run ins.length { s with inputs := ins ++ r } =
      .next { s with
        inputs := r, cycle := s.cycle + ins.length, paInit := false, paShutdown := false, rspValid := false,
        cnt := s.cnt + BitVec.ofNat 8 ins.length })

/-- R111: a poll that finds the level changed ends the phase, whose count may give a bit, and starts the next, or ends the
pass with phase 84. -/
def Obligations.PollChangedLevel : Prop :=
  ∀ s : State, s.fsm = .poll → s.input.rst = false → s.input.pollEn = true → s.input.lineIn ≠ s.last →
    s.emitted = [⟨s.last, s.cnt, false⟩] ∧
    (s.phase.toNat + 1 ≠ 85 →
      step s = .next { s with
        inputs := s.inputs.tail, cycle := s.cycle + 1, paInit := false, paShutdown := false, rspValid := false,
        last := s.input.lineIn, cnt := 0#8, phase := s.phase + 1#7,
        buf := (Assembly.decodePhase ⟨s.buf, s.bitcnt⟩ s.phase s.cnt).buf,
        bitcnt := (Assembly.decodePhase ⟨s.buf, s.bitcnt⟩ s.phase s.cnt).bitcnt }) ∧
    (s.phase.toNat + 1 = 85 →
      step s = .next { s with
        inputs := s.inputs.tail, cycle := s.cycle + 1, paInit := false, paShutdown := false, last := s.input.lineIn,
        cnt := 0#8, phase := 85#7, buf := (Assembly.decodePhase ⟨s.buf, s.bitcnt⟩ s.phase s.cnt).buf,
        bitcnt := (Assembly.decodePhase ⟨s.buf, s.bitcnt⟩ s.phase s.cnt).bitcnt, rspValid := true,
        rspCode := (classify s.bitcnt s.buf s.timeout).code.bits,
        rspData := if classify s.bitcnt s.buf s.timeout = .valid then s.buf.data else 0#40,
        cache := if classify s.bitcnt s.buf s.timeout = .valid then s.buf else s.cache,
        cacheValid := if classify s.bitcnt s.buf s.timeout = .valid then true else s.cacheValid,
        fsm := if classify s.bitcnt s.buf s.timeout = .valid then .frameReady else .failed })

/-- R34, write half, for the steps of a pass: the handshake writes only `dly`, the pin outputs and `fsm`; a poll writes none
of `variant`, `dly` and the pin outputs, and writes the cache only at the end of the pass. -/
def Obligations.PassStepFrames : Prop :=
  ∀ s t : State, s.input.rst = false → step s = .next t →
    (s.fsm.handshake = true → t.variant = s.variant ∧ t.cache = s.cache ∧ t.cacheValid = s.cacheValid ∧ t.buf = s.buf ∧
      t.bitcnt = s.bitcnt ∧ t.phase = s.phase ∧ t.cnt = s.cnt ∧ t.last = s.last ∧ t.timeout = s.timeout ∧
      t.rspValid = false) ∧
    (s.fsm = .poll → t.variant = s.variant ∧ t.dly = s.dly ∧ t.lineOe = s.lineOe ∧ t.lineOut = s.lineOut ∧
      t.pull = s.pull) ∧
    (s.fsm = .poll → t.fsm = .poll → t.cache = s.cache ∧ t.cacheValid = s.cacheValid ∧ t.timeout = s.timeout ∧
      t.rspValid = false) ∧
    ((s.fsm = .frameReady ∨ s.fsm = .failed) →
      t = { s with
        inputs := s.inputs.tail, cycle := s.cycle + 1, paInit := false, paShutdown := false, rspValid := false,
        fsm := .idle })

/-- R108: the handshake as calls on PinAccess, from the acceptance of a READ in Idle to the last pulse of ReleaseHigh. R108
says that `set_direction` Output and `write` Low are simultaneous, and so are `set_direction` Input and `set_pull` Up, their
order not fixed; the order within each pair here is the model's choice (DESIGN CHOICE, log entry 10). -/
def Obligations.HandshakePinCalls : Prop :=
  ∀ (s : State) (c : Inputs) (hs r : List Inputs), s.fsm = .idle → c.rst = false → c.cmdValid = true →
    c.cmd = 0x0200#16 → (∀ i ∈ hs, i.rst = false) → hs.countP (fun i => i.usEn) = 20050 →
    (hs.getLast?.map fun i => i.usEn) = some true →
    trace State.pinCalls (1 + hs.length) { s with inputs := c :: (hs ++ r) } =
      [.setDirection true, .write .low, .delayMicros 20000, .write .high, .delayMicros 50, .setDirection false,
       .setPull 1#2]

/-! ### The bit decoder -/

/-- R131: a phase with an even index from 4 on stores its bit while fewer than 40 are stored: the byte `bitcnt div 8` is
doubled with the bit added, modulo 256, the bit being 1 when the count is above 16; any other phase writes nothing. -/
def Obligations.DecodePhase : Prop :=
  ∀ (a : Assembly) (p : BitVec 7) (c : BitVec 8),
    ((4 ≤ p.toNat ∧ p.toNat % 2 = 0) ∧ a.bitcnt.toNat < 40 →
      (a.decodePhase p c).bitcnt.toNat = a.bitcnt.toNat + 1 ∧
      ((a.decodePhase p c).buf.get (a.bitcnt.toNat / 8)).toNat =
        (2 * (a.buf.get (a.bitcnt.toNat / 8)).toNat + if 16 < c.toNat then 1 else 0) % 256 ∧
      ∀ k < 5, k ≠ a.bitcnt.toNat / 8 → (a.decodePhase p c).buf.get k = a.buf.get k) ∧
    (¬((4 ≤ p.toNat ∧ p.toNat % 2 = 0) ∧ a.bitcnt.toNat < 40) → a.decodePhase p c = a)

/-- R52, R139: forty bits stored from the start of a pass stand in the frame in order of arrival, the first as the most
significant bit of byte 0. -/
def Obligations.BitsArriveMsbFirst : Prop :=
  ∀ bs : List Bool, bs.length = 40 →
    (bs.foldl Assembly.storeBit Assembly.start).bitcnt = 40#6 ∧
    ∀ j < 40, bs[j]? = some ((bs.foldl Assembly.storeBit Assembly.start).buf.bit j)

/-- S3, R140: a Transition sequence whose phases 0 to 82 ended normally and whose slot `4 + 2j` has a count above 16 exactly
when bit `j` of a frame is 1 decodes to that frame, complete. -/
def Obligations.TransitionRoundTrip : Prop :=
  ∀ (f : Frame) (trs : List Transition), 83 ≤ trs.length → trs.length ≤ 85 →
    (∀ k < 83, ∃ t, trs[k]? = some t ∧ t.sat = false) →
    (∀ j < 40, ∃ t, trs[4 + 2 * j]? = some t ∧ (16 < t.count.toNat ↔ f.bit j = true)) →
    decodeTransitions trs = ⟨f, 40#6⟩

/-- S3: a pass over the standard test waveform of any frame gives back the frame, complete, and saturates in phase 84. -/
def Obligations.WaveformRoundTrip : Prop :=
  ∀ (f : Frame) (n : Nat), 256 ≤ n →
    ∃ r, samplePass (standardWaveform f n) = some r ∧ r.buf = f ∧ r.bitcnt = 40#6 ∧ r.timeout = true ∧
      r.trs.length = 85 ∧ r.outcome = if validate f then .valid else .checksumMismatch

/-- R140: the frame a pass holds at its end is what the decoder makes of the Transitions the pass emitted. -/
def Obligations.StreamedDecodingAgrees : Prop :=
  ∀ (ws : List Level) (r : PassResult), samplePass ws = some r → decodeTransitions r.trs = ⟨r.buf, r.bitcnt⟩

/-! ### Whole passes -/

/-- R113, R117: a pass ends within 21675 polls and uses at least 85; it emits 1 to 85 Transitions, of which only the last can
be saturated, and all 85 if none is. -/
def Obligations.PassBounds : Prop :=
  (∀ ws : List Level, 21675 ≤ ws.length → ∃ r, samplePass ws = some r) ∧
  (∀ (ws : List Level) (r : PassResult), samplePass ws = some r →
    85 ≤ r.polls ∧ r.polls ≤ 21675 ∧ r.polls ≤ ws.length ∧ 1 ≤ r.trs.length ∧ r.trs.length ≤ 85 ∧
    (∀ k t, r.trs[k]? = some t → (t.sat = true ↔ r.timeout = true ∧ k + 1 = r.trs.length)) ∧
    (r.timeout = false → r.trs.length = 85))

/-- R155, R117: a line that never leaves High saturates phase 0 with the 255th poll, one that never leaves Low saturates phase
1 with the 256th; both passes are SamplingTimeout without a bit. -/
def Obligations.SilentLineTimesOut : Prop :=
  (∀ n, 255 ≤ n → samplePass (List.replicate n .high) =
    some ⟨[⟨.high, 255#8, true⟩], ⟨0#8, 0#8, 0#8, 0#8, 0#8⟩, 0#6, true, 255⟩) ∧
  (∀ n, 256 ≤ n → samplePass (List.replicate n .low) =
    some ⟨[⟨.high, 0#8, false⟩, ⟨.low, 255#8, true⟩], ⟨0#8, 0#8, 0#8, 0#8, 0#8⟩, 0#6, true, 256⟩) ∧
  (∀ (ts : List Transition) (f : Frame) (k : Nat), PassResult.outcome ⟨ts, f, 0#6, true, k⟩ = .samplingTimeout)

/-- R138, R154: a pass that saturates in phase `p` holds the bits of the slots below `p`, at most 40; one that does not
saturate holds 40; so no pass is Incomplete. -/
def Obligations.BitCountOfAPass : Prop :=
  ∀ (ws : List Level) (r : PassResult), samplePass ws = some r →
    (r.timeout = true → r.bitcnt.toNat = min 40 ((r.trs.length - 1 - 3) / 2)) ∧
    (r.timeout = false → r.bitcnt = 40#6) ∧
    (r.outcome = .samplingTimeout ↔ r.timeout = true ∧ r.trs.length - 1 ≤ 82) ∧ r.outcome ≠ .incomplete

/-- R222, R154: a saturation in phase 82 or before is answered SamplingTimeout and leaves the cache alone; in phase 83 or 84 the
frame is complete and is judged by its checksum. -/
def Obligations.SaturationOutcome : Prop :=
  ∀ s t : State, Inv s → s.fsm = .poll → s.input.rst = false → s.input.pollEn = true → s.input.lineIn = s.last →
    s.cnt = 254#8 → step s = .next t →
    t.timeout = true ∧ t.rspValid = true ∧ t.lineOe = false ∧ t.pull = 1#2 ∧
    (s.phase.toNat ≤ 82 → t.rspCode = 4#4 ∧ t.rspData = 0#40 ∧ t.fsm = .failed ∧ t.cache = s.cache ∧
      t.cacheValid = s.cacheValid) ∧
    (83 ≤ s.phase.toNat →
      t.rspCode = if s.buf.checksum.toNat =
        (s.buf.humInt.toNat + s.buf.humFrac.toNat + s.buf.tempInt.toNat + s.buf.tempFrac.toNat) % 256
        then 1#4 else 3#4)

/-- R212: READ as one big step. From any state in Idle, a READ followed by a handshake of 20050 `us_en` pulses and by the polls
of a pass, whatever else the inputs do, ends in the response of `sample_pass` and `classify`, visible for one cycle, and then
in Idle with the registers R212 names; the Transitions emitted on the way are those of `sample_pass`. R212 leaves `phase`,
`cnt`, `last` and `dly` unnamed, and so does this statement. -/
def Obligations.ReadIsOneBigStep : Prop :=
  ∀ (s : State) (c z : Inputs) (hs ps rest : List Inputs) (r : PassResult),
    s.fsm = .idle → c.rst = false → c.cmdValid = true → c.cmd = 0x0200#16 →
    (∀ i ∈ hs, i.rst = false) → (∀ i ∈ ps, i.rst = false) → z.rst = false →
    hs.countP (fun i => i.usEn) = 20050 → (hs.getLast?.map fun i => i.usEn) = some true →
    samplePass (pollSamples ps) = some r → r.polls = (pollSamples ps).length →
    (ps.getLast?.map fun i => i.pollEn) = some true →
    ∃ t u, run (1 + hs.length + ps.length) { s with inputs := c :: (hs ++ (ps ++ z :: rest)) } = .next t ∧
      t.rspValid = true ∧ t.rspCode = r.outcome.code.bits ∧ t.rspData = r.responseData ∧
      t.fsm = (if r.outcome = .valid then .frameReady else .failed) ∧
      trace State.emitted (1 + hs.length + ps.length) { s with inputs := c :: (hs ++ (ps ++ z :: rest)) } = r.trs ∧
      step t = .next u ∧
      u = { s.afterRead r with
        phase := u.phase, cnt := u.cnt, last := u.last, dly := u.dly, rspValid := false, rspCode := u.rspCode,
        rspData := u.rspData, paInit := false, paShutdown := false, inputs := rest,
        cycle := s.cycle + hs.length + ps.length + 2 }

/-- R19: every READ is answered. A READ accepted in Idle, 20050 `us_en` pulses and then 21675 polls without a reset are enough
for its response to have been visible. -/
def Obligations.EveryReadIsAnswered : Prop :=
  ∀ (s : State) (c : Inputs) (hs ps r : List Inputs),
    s.fsm = .idle → c.rst = false → c.cmdValid = true → c.cmd = 0x0200#16 →
    (∀ i ∈ hs, i.rst = false) → (∀ i ∈ ps, i.rst = false) →
    hs.countP (fun i => i.usEn) = 20050 → (hs.getLast?.map fun i => i.usEn) = some true →
    21675 ≤ ps.countP (fun i => i.pollEn) →
    ∃ n t, n ≤ 1 + hs.length + ps.length ∧ run n { s with inputs := c :: (hs ++ (ps ++ r)) } = .next t ∧
      (t.fsm = .frameReady ∨ t.fsm = .failed) ∧ t.rspValid = true

/-! ### The checksum, the classification and the cache -/

/-- R150: `validate` holds exactly when byte 4 is the sum of bytes 0 to 3 modulo 256, which is the same as adding in an 8-bit
register. -/
def Obligations.ChecksumIsByteSum : Prop :=
  ∀ f : Frame,
    (validate f = true ↔
      f.checksum.toNat = (f.humInt.toNat + f.humFrac.toNat + f.tempInt.toNat + f.tempFrac.toNat) % 256) ∧
    (validate f = true ↔ f.checksum = f.humInt + f.humFrac + f.tempInt + f.tempFrac)

/-- R151: changing exactly one byte of a frame that passes makes it fail. -/
def Obligations.SingleByteCorruptionDetected : Prop :=
  ∀ (f : Frame) (i : Nat) (v : Byte), i < 5 → v ≠ f.get i → validate f = true → validate (f.set i v) = false

/-- R153: the order in which the outcome of a pass is decided. -/
def Obligations.Classification : Prop :=
  ∀ (n : BitVec 6) (f : Frame) (timeout : Bool),
    (n = 40#6 → validate f = true → classify n f timeout = .valid) ∧
    (n = 40#6 → validate f = false → classify n f timeout = .checksumMismatch) ∧
    (n ≠ 40#6 → timeout = true → classify n f timeout = .samplingTimeout) ∧
    (n ≠ 40#6 → timeout = false → classify n f timeout = .incomplete)

/-- R158, R198: the step that ends a pass answers its outcome, with the frame if Valid, and goes to FrameReady or Failed; the
next step goes to Idle whatever the inputs other than `rst`, and computes no response. -/
def Obligations.PassEndAnswers : Prop :=
  (∀ s : State, s.EndsPass →
    ∃ t, step s = .next t ∧ t.rspValid = true ∧ t.rspCode = s.passOutcome.code.bits ∧
      (s.passOutcome = .valid →
        t.rspData = s.buf.humInt ++ s.buf.humFrac ++ s.buf.tempInt ++ s.buf.tempFrac ++ s.buf.checksum ∧
        t.fsm = .frameReady) ∧
      (s.passOutcome ≠ .valid → t.rspData = 0#40 ∧ t.fsm = .failed)) ∧
  (∀ s : State, (s.fsm = .frameReady ∨ s.fsm = .failed) → s.input.rst = false →
    step s = .next { s with
      inputs := s.inputs.tail, cycle := s.cycle + 1, paInit := false, paShutdown := false, rspValid := false,
      fsm := .idle })

/-- R156, R157: the cache is written exactly by the end of a Valid pass, all five bytes in one step. Without a reset nothing
else writes its bytes, and only a successful OPEN clears `cache_valid`. -/
def Obligations.CacheHoldsLastValidFrame : Prop :=
  ∀ s t : State, s.input.rst = false → step s = .next t →
    (s.EndsPass → s.passOutcome = .valid → t.cache = s.buf ∧ t.cacheValid = true) ∧
    (¬(s.EndsPass ∧ s.passOutcome = .valid) → t.cache = s.cache ∧
      (t.cacheValid = s.cacheValid ∨ (t.cacheValid = false ∧ s.fsm = .closed ∧ t.fsm = .idle)))

/-! ### The converter -/

/-- R172, R173, R174, R175: the four formulas as integer arithmetic, with the worked lines of those rules. -/
def Obligations.ConversionFormulas : Prop :=
  (∀ ti tf : Byte, tempA ti tf =
    10 * (if 128 ≤ tf.toNat then -(ti.toNat : Int) - 1 else (ti.toNat : Int)) + ((tf.toNat % 16 : Nat) : Int)) ∧
  (∀ hi hf : Byte, humA hi hf = 10 * hi.toNat + hf.toNat) ∧
  (∀ ti tf : Byte, tempB ti tf =
    if 128 ≤ ti.toNat then -((256 * (ti.toNat % 128) + tf.toNat : Nat) : Int)
    else ((256 * (ti.toNat % 128) + tf.toNat : Nat) : Int)) ∧
  (∀ hi hf : Byte, humB hi hf = 256 * hi.toNat + hf.toNat) ∧
  tempA 26#8 0#8 = 260 ∧ tempA 5#8 0x85#8 = -55 ∧ humA 35#8 0#8 = 350 ∧ tempB 0x80#8 0#8 = 0 ∧
  tempB 0x01#8 0x00#8 = 256 ∧ humB 0x02#8 0x1A#8 = 538

/-- R181, R170: the ranges of the four results, each bound attained; every result fits the 16 bits it is delivered in, and
-32768 is never produced. -/
def Obligations.ConversionRanges : Prop :=
  (∀ ti tf : Byte, tf.toNat < 128 → 0 ≤ tempA ti tf ∧ tempA ti tf ≤ 2565) ∧
  (∀ ti tf : Byte, 128 ≤ tf.toNat → -2560 ≤ tempA ti tf ∧ tempA ti tf ≤ 5) ∧
  (∀ hi hf : Byte, humA hi hf ≤ 2805) ∧
  (∀ ti tf : Byte, -32767 ≤ tempB ti tf ∧ tempB ti tf ≤ 32767) ∧
  (∀ hi hf : Byte, humB hi hf ≤ 65535) ∧
  tempA 0#8 0#8 = 0 ∧ tempA 255#8 0x0F#8 = 2565 ∧ tempA 255#8 0x80#8 = -2560 ∧ tempA 0#8 0x8F#8 = 5 ∧
  humA 0#8 0#8 = 0 ∧ humA 255#8 255#8 = 2805 ∧ tempB 0xFF#8 0xFF#8 = -32767 ∧ tempB 0x7F#8 0xFF#8 = 32767 ∧
  humB 0#8 0#8 = 0 ∧ humB 0xFF#8 0xFF#8 = 65535 ∧
  (∀ (v : Variant) (f : Frame), (BitVec.ofInt 16 (temperature v f)).toInt = temperature v f ∧
    (BitVec.ofNat 16 (humidity v f)).toNat = humidity v f)

/-! ### Invariants and isolation -/

/-- R32, R33: the invariant holds at reset. -/
def Obligations.ResetMeetsInvariant : Prop := Inv State.reset

/-- R33: every step keeps the invariant, from every state that meets it and under all inputs. -/
def Obligations.StepKeepsInvariant : Prop :=
  ∀ s t : State, Inv s → step s = .next t → Inv t

/-- R32, R31, U2 to U5, U8: no step and no output port depends on a register that the spec leaves unspecified or calls unread:
two states that differ only there show the same outputs, and after any step again differ only there. Two clauses rest on the
model's choices, not on the spec: `rsp_code` and `rsp_data` are equal at the ports while `rsp_valid` = 0 because the ports
then show free values of the cycle (DESIGN CHOICE, log entry 3), where U5 lets hardware hold the last response; and two
NoData responses have equal data because that data is a free value of the cycle (DESIGN CHOICE, log entry 4). -/
def Obligations.UnreadRegistersDoNotMatter : Prop :=
  ∀ s t : State, LiveEq s t →
    s.outputs = t.outputs ∧
    ∀ s' t' : State, step s = .next s' → step t = .next t' → LiveEq s' t'

/-- R83: the hardware never looks at the variant while receiving or validating a frame: a step outside the resting states is
the same under either variant. -/
def Obligations.ReceiverIgnoresVariant : Prop :=
  ∀ (s t : State) (v : Variant), s.fsm ≠ .closed → s.fsm ≠ .idle → s.input.rst = false → step s = .next t →
    step { s with variant := v } = .next { t with variant := v }
end

