-- ==== Sys2Proof/Laws/State.lean ====
section
/-! SUPPORT. What each update of State leaves in each field: one lemma per field per update, true by `rfl`. Written once, so
that no proof unfolds a record update. -/

namespace Sys2Proof.Machine

/-! ### `nextCycle` -/

@[simp] theorem State.nextCycle_fsm (s : State) : s.nextCycle.fsm = s.fsm := rfl
@[simp] theorem State.nextCycle_variant (s : State) : s.nextCycle.variant = s.variant := rfl
@[simp] theorem State.nextCycle_cache (s : State) : s.nextCycle.cache = s.cache := rfl
@[simp] theorem State.nextCycle_cacheValid (s : State) : s.nextCycle.cacheValid = s.cacheValid := rfl
@[simp] theorem State.nextCycle_buf (s : State) : s.nextCycle.buf = s.buf := rfl
@[simp] theorem State.nextCycle_bitcnt (s : State) : s.nextCycle.bitcnt = s.bitcnt := rfl
@[simp] theorem State.nextCycle_phase (s : State) : s.nextCycle.phase = s.phase := rfl
@[simp] theorem State.nextCycle_cnt (s : State) : s.nextCycle.cnt = s.cnt := rfl
@[simp] theorem State.nextCycle_last (s : State) : s.nextCycle.last = s.last := rfl
@[simp] theorem State.nextCycle_timeout (s : State) : s.nextCycle.timeout = s.timeout := rfl
@[simp] theorem State.nextCycle_dly (s : State) : s.nextCycle.dly = s.dly := rfl
@[simp] theorem State.nextCycle_rspValid (s : State) : s.nextCycle.rspValid = false := rfl
@[simp] theorem State.nextCycle_rspCode (s : State) : s.nextCycle.rspCode = s.rspCode := rfl
@[simp] theorem State.nextCycle_rspData (s : State) : s.nextCycle.rspData = s.rspData := rfl
@[simp] theorem State.nextCycle_lineOe (s : State) : s.nextCycle.lineOe = s.lineOe := rfl
@[simp] theorem State.nextCycle_lineOut (s : State) : s.nextCycle.lineOut = s.lineOut := rfl
@[simp] theorem State.nextCycle_pull (s : State) : s.nextCycle.pull = s.pull := rfl
@[simp] theorem State.nextCycle_paInit (s : State) : s.nextCycle.paInit = false := rfl
@[simp] theorem State.nextCycle_paShutdown (s : State) : s.nextCycle.paShutdown = false := rfl
@[simp] theorem State.nextCycle_inputs (s : State) : s.nextCycle.inputs = s.inputs.tail := rfl
@[simp] theorem State.nextCycle_cycle (s : State) : s.nextCycle.cycle = s.cycle + 1 := rfl

/-! ### `applyReset` -/

@[simp] theorem State.applyReset_fsm (s : State) : s.applyReset.fsm = State.reset.fsm := rfl
@[simp] theorem State.applyReset_variant (s : State) : s.applyReset.variant = State.reset.variant := rfl
@[simp] theorem State.applyReset_cache (s : State) : s.applyReset.cache = State.reset.cache := rfl
@[simp] theorem State.applyReset_cacheValid (s : State) : s.applyReset.cacheValid = State.reset.cacheValid := rfl
@[simp] theorem State.applyReset_buf (s : State) : s.applyReset.buf = State.reset.buf := rfl
@[simp] theorem State.applyReset_bitcnt (s : State) : s.applyReset.bitcnt = State.reset.bitcnt := rfl
@[simp] theorem State.applyReset_phase (s : State) : s.applyReset.phase = State.reset.phase := rfl
@[simp] theorem State.applyReset_cnt (s : State) : s.applyReset.cnt = State.reset.cnt := rfl
@[simp] theorem State.applyReset_last (s : State) : s.applyReset.last = State.reset.last := rfl
@[simp] theorem State.applyReset_timeout (s : State) : s.applyReset.timeout = State.reset.timeout := rfl
@[simp] theorem State.applyReset_dly (s : State) : s.applyReset.dly = State.reset.dly := rfl
@[simp] theorem State.applyReset_rspValid (s : State) : s.applyReset.rspValid = State.reset.rspValid := rfl
@[simp] theorem State.applyReset_rspCode (s : State) : s.applyReset.rspCode = State.reset.rspCode := rfl
@[simp] theorem State.applyReset_rspData (s : State) : s.applyReset.rspData = State.reset.rspData := rfl
@[simp] theorem State.applyReset_lineOe (s : State) : s.applyReset.lineOe = State.reset.lineOe := rfl
@[simp] theorem State.applyReset_lineOut (s : State) : s.applyReset.lineOut = State.reset.lineOut := rfl
@[simp] theorem State.applyReset_pull (s : State) : s.applyReset.pull = State.reset.pull := rfl
@[simp] theorem State.applyReset_paInit (s : State) : s.applyReset.paInit = State.reset.paInit := rfl
@[simp] theorem State.applyReset_paShutdown (s : State) : s.applyReset.paShutdown = State.reset.paShutdown := rfl
@[simp] theorem State.applyReset_inputs (s : State) : s.applyReset.inputs = s.inputs.tail := rfl
@[simp] theorem State.applyReset_cycle (s : State) : s.applyReset.cycle = s.cycle + 1 := rfl

/-! ### `respond` -/

@[simp] theorem State.respond_fsm (s : State) (c : RspCode) (d : RspData) : (s.respond c d).fsm = s.fsm := rfl
@[simp] theorem State.respond_variant (s : State) (c : RspCode) (d : RspData) : (s.respond c d).variant = s.variant := rfl
@[simp] theorem State.respond_cache (s : State) (c : RspCode) (d : RspData) : (s.respond c d).cache = s.cache := rfl
@[simp] theorem State.respond_cacheValid (s : State) (c : RspCode) (d : RspData) : (s.respond c d).cacheValid = s.cacheValid := rfl
@[simp] theorem State.respond_buf (s : State) (c : RspCode) (d : RspData) : (s.respond c d).buf = s.buf := rfl
@[simp] theorem State.respond_bitcnt (s : State) (c : RspCode) (d : RspData) : (s.respond c d).bitcnt = s.bitcnt := rfl
@[simp] theorem State.respond_phase (s : State) (c : RspCode) (d : RspData) : (s.respond c d).phase = s.phase := rfl
@[simp] theorem State.respond_cnt (s : State) (c : RspCode) (d : RspData) : (s.respond c d).cnt = s.cnt := rfl
@[simp] theorem State.respond_last (s : State) (c : RspCode) (d : RspData) : (s.respond c d).last = s.last := rfl
@[simp] theorem State.respond_timeout (s : State) (c : RspCode) (d : RspData) : (s.respond c d).timeout = s.timeout := rfl
@[simp] theorem State.respond_dly (s : State) (c : RspCode) (d : RspData) : (s.respond c d).dly = s.dly := rfl
@[simp] theorem State.respond_rspValid (s : State) (c : RspCode) (d : RspData) : (s.respond c d).rspValid = true := rfl
@[simp] theorem State.respond_rspCode (s : State) (c : RspCode) (d : RspData) : (s.respond c d).rspCode = c.bits := rfl
@[simp] theorem State.respond_rspData (s : State) (c : RspCode) (d : RspData) : (s.respond c d).rspData = d := rfl
@[simp] theorem State.respond_lineOe (s : State) (c : RspCode) (d : RspData) : (s.respond c d).lineOe = s.lineOe := rfl
@[simp] theorem State.respond_lineOut (s : State) (c : RspCode) (d : RspData) : (s.respond c d).lineOut = s.lineOut := rfl
@[simp] theorem State.respond_pull (s : State) (c : RspCode) (d : RspData) : (s.respond c d).pull = s.pull := rfl
@[simp] theorem State.respond_paInit (s : State) (c : RspCode) (d : RspData) : (s.respond c d).paInit = s.paInit := rfl
@[simp] theorem State.respond_paShutdown (s : State) (c : RspCode) (d : RspData) : (s.respond c d).paShutdown = s.paShutdown := rfl
@[simp] theorem State.respond_inputs (s : State) (c : RspCode) (d : RspData) : (s.respond c d).inputs = s.inputs := rfl
@[simp] theorem State.respond_cycle (s : State) (c : RspCode) (d : RspData) : (s.respond c d).cycle = s.cycle := rfl

/-! ### `raiseError` -/

@[simp] theorem State.raiseError_fsm (s : State) (e : RspCode) : (s.raiseError e).fsm = s.fsm := rfl
@[simp] theorem State.raiseError_variant (s : State) (e : RspCode) : (s.raiseError e).variant = s.variant := rfl
@[simp] theorem State.raiseError_cache (s : State) (e : RspCode) : (s.raiseError e).cache = s.cache := rfl
@[simp] theorem State.raiseError_cacheValid (s : State) (e : RspCode) : (s.raiseError e).cacheValid = s.cacheValid := rfl
@[simp] theorem State.raiseError_buf (s : State) (e : RspCode) : (s.raiseError e).buf = s.buf := rfl
@[simp] theorem State.raiseError_bitcnt (s : State) (e : RspCode) : (s.raiseError e).bitcnt = s.bitcnt := rfl
@[simp] theorem State.raiseError_phase (s : State) (e : RspCode) : (s.raiseError e).phase = s.phase := rfl
@[simp] theorem State.raiseError_cnt (s : State) (e : RspCode) : (s.raiseError e).cnt = s.cnt := rfl
@[simp] theorem State.raiseError_last (s : State) (e : RspCode) : (s.raiseError e).last = s.last := rfl
@[simp] theorem State.raiseError_timeout (s : State) (e : RspCode) : (s.raiseError e).timeout = s.timeout := rfl
@[simp] theorem State.raiseError_dly (s : State) (e : RspCode) : (s.raiseError e).dly = s.dly := rfl
@[simp] theorem State.raiseError_rspValid (s : State) (e : RspCode) : (s.raiseError e).rspValid = true := rfl
@[simp] theorem State.raiseError_rspCode (s : State) (e : RspCode) : (s.raiseError e).rspCode = e.bits := rfl
@[simp] theorem State.raiseError_rspData (s : State) (e : RspCode) : (s.raiseError e).rspData = errorData e s.cycle := rfl
@[simp] theorem State.raiseError_lineOe (s : State) (e : RspCode) : (s.raiseError e).lineOe = s.lineOe := rfl
@[simp] theorem State.raiseError_lineOut (s : State) (e : RspCode) : (s.raiseError e).lineOut = s.lineOut := rfl
@[simp] theorem State.raiseError_pull (s : State) (e : RspCode) : (s.raiseError e).pull = s.pull := rfl
@[simp] theorem State.raiseError_paInit (s : State) (e : RspCode) : (s.raiseError e).paInit = s.paInit := rfl
@[simp] theorem State.raiseError_paShutdown (s : State) (e : RspCode) : (s.raiseError e).paShutdown = s.paShutdown := rfl
@[simp] theorem State.raiseError_inputs (s : State) (e : RspCode) : (s.raiseError e).inputs = s.inputs := rfl
@[simp] theorem State.raiseError_cycle (s : State) (e : RspCode) : (s.raiseError e).cycle = s.cycle := rfl

/-! ### `startPass` -/

@[simp] theorem State.startPass_fsm (s : State) : s.startPass.fsm = .startLow := rfl
@[simp] theorem State.startPass_variant (s : State) : s.startPass.variant = s.variant := rfl
@[simp] theorem State.startPass_cache (s : State) : s.startPass.cache = s.cache := rfl
@[simp] theorem State.startPass_cacheValid (s : State) : s.startPass.cacheValid = s.cacheValid := rfl
@[simp] theorem State.startPass_buf (s : State) : s.startPass.buf = Frame.zero := rfl
@[simp] theorem State.startPass_bitcnt (s : State) : s.startPass.bitcnt = 0#6 := rfl
@[simp] theorem State.startPass_phase (s : State) : s.startPass.phase = 0#7 := rfl
@[simp] theorem State.startPass_cnt (s : State) : s.startPass.cnt = 0#8 := rfl
@[simp] theorem State.startPass_last (s : State) : s.startPass.last = .high := rfl
@[simp] theorem State.startPass_timeout (s : State) : s.startPass.timeout = false := rfl
@[simp] theorem State.startPass_dly (s : State) : s.startPass.dly = BitVec.ofNat 32 Config.tStartUs := rfl
@[simp] theorem State.startPass_rspValid (s : State) : s.startPass.rspValid = s.rspValid := rfl
@[simp] theorem State.startPass_rspCode (s : State) : s.startPass.rspCode = s.rspCode := rfl
@[simp] theorem State.startPass_rspData (s : State) : s.startPass.rspData = s.rspData := rfl
@[simp] theorem State.startPass_lineOe (s : State) : s.startPass.lineOe = true := rfl
@[simp] theorem State.startPass_lineOut (s : State) : s.startPass.lineOut = .low := rfl
@[simp] theorem State.startPass_pull (s : State) : s.startPass.pull = s.pull := rfl
@[simp] theorem State.startPass_paInit (s : State) : s.startPass.paInit = s.paInit := rfl
@[simp] theorem State.startPass_paShutdown (s : State) : s.startPass.paShutdown = s.paShutdown := rfl
@[simp] theorem State.startPass_inputs (s : State) : s.startPass.inputs = s.inputs := rfl
@[simp] theorem State.startPass_cycle (s : State) : s.startPass.cycle = s.cycle := rfl

/-! ### `commitCache` -/

@[simp] theorem State.commitCache_fsm (s : State) (f : Frame) : (s.commitCache f).fsm = s.fsm := rfl
@[simp] theorem State.commitCache_variant (s : State) (f : Frame) : (s.commitCache f).variant = s.variant := rfl
@[simp] theorem State.commitCache_cache (s : State) (f : Frame) : (s.commitCache f).cache = f := rfl
@[simp] theorem State.commitCache_cacheValid (s : State) (f : Frame) : (s.commitCache f).cacheValid = true := rfl
@[simp] theorem State.commitCache_buf (s : State) (f : Frame) : (s.commitCache f).buf = s.buf := rfl
@[simp] theorem State.commitCache_bitcnt (s : State) (f : Frame) : (s.commitCache f).bitcnt = s.bitcnt := rfl
@[simp] theorem State.commitCache_phase (s : State) (f : Frame) : (s.commitCache f).phase = s.phase := rfl
@[simp] theorem State.commitCache_cnt (s : State) (f : Frame) : (s.commitCache f).cnt = s.cnt := rfl
@[simp] theorem State.commitCache_last (s : State) (f : Frame) : (s.commitCache f).last = s.last := rfl
@[simp] theorem State.commitCache_timeout (s : State) (f : Frame) : (s.commitCache f).timeout = s.timeout := rfl
@[simp] theorem State.commitCache_dly (s : State) (f : Frame) : (s.commitCache f).dly = s.dly := rfl
@[simp] theorem State.commitCache_rspValid (s : State) (f : Frame) : (s.commitCache f).rspValid = s.rspValid := rfl
@[simp] theorem State.commitCache_rspCode (s : State) (f : Frame) : (s.commitCache f).rspCode = s.rspCode := rfl
@[simp] theorem State.commitCache_rspData (s : State) (f : Frame) : (s.commitCache f).rspData = s.rspData := rfl
@[simp] theorem State.commitCache_lineOe (s : State) (f : Frame) : (s.commitCache f).lineOe = s.lineOe := rfl
@[simp] theorem State.commitCache_lineOut (s : State) (f : Frame) : (s.commitCache f).lineOut = s.lineOut := rfl
@[simp] theorem State.commitCache_pull (s : State) (f : Frame) : (s.commitCache f).pull = s.pull := rfl
@[simp] theorem State.commitCache_paInit (s : State) (f : Frame) : (s.commitCache f).paInit = s.paInit := rfl
@[simp] theorem State.commitCache_paShutdown (s : State) (f : Frame) : (s.commitCache f).paShutdown = s.paShutdown := rfl
@[simp] theorem State.commitCache_inputs (s : State) (f : Frame) : (s.commitCache f).inputs = s.inputs := rfl
@[simp] theorem State.commitCache_cycle (s : State) (f : Frame) : (s.commitCache f).cycle = s.cycle := rfl

/-! ### `withCommand` -/

@[simp] theorem State.withCommand_fsm (s : State) (w : CmdWord) : (s.withCommand w).fsm = if s.cmdReady then s.fsm else .idle := rfl
@[simp] theorem State.withCommand_variant (s : State) (w : CmdWord) : (s.withCommand w).variant = s.variant := rfl
@[simp] theorem State.withCommand_cache (s : State) (w : CmdWord) : (s.withCommand w).cache = s.cache := rfl
@[simp] theorem State.withCommand_cacheValid (s : State) (w : CmdWord) : (s.withCommand w).cacheValid = s.cacheValid := rfl
@[simp] theorem State.withCommand_buf (s : State) (w : CmdWord) : (s.withCommand w).buf = s.buf := rfl
@[simp] theorem State.withCommand_bitcnt (s : State) (w : CmdWord) : (s.withCommand w).bitcnt = s.bitcnt := rfl
@[simp] theorem State.withCommand_phase (s : State) (w : CmdWord) : (s.withCommand w).phase = s.phase := rfl
@[simp] theorem State.withCommand_cnt (s : State) (w : CmdWord) : (s.withCommand w).cnt = s.cnt := rfl
@[simp] theorem State.withCommand_last (s : State) (w : CmdWord) : (s.withCommand w).last = s.last := rfl
@[simp] theorem State.withCommand_timeout (s : State) (w : CmdWord) : (s.withCommand w).timeout = s.timeout := rfl
@[simp] theorem State.withCommand_dly (s : State) (w : CmdWord) : (s.withCommand w).dly = s.dly := rfl
@[simp] theorem State.withCommand_rspValid (s : State) (w : CmdWord) : (s.withCommand w).rspValid = s.rspValid := rfl
@[simp] theorem State.withCommand_rspCode (s : State) (w : CmdWord) : (s.withCommand w).rspCode = s.rspCode := rfl
@[simp] theorem State.withCommand_rspData (s : State) (w : CmdWord) : (s.withCommand w).rspData = s.rspData := rfl
@[simp] theorem State.withCommand_lineOe (s : State) (w : CmdWord) : (s.withCommand w).lineOe = s.lineOe := rfl
@[simp] theorem State.withCommand_lineOut (s : State) (w : CmdWord) : (s.withCommand w).lineOut = s.lineOut := rfl
@[simp] theorem State.withCommand_pull (s : State) (w : CmdWord) : (s.withCommand w).pull = s.pull := rfl
@[simp] theorem State.withCommand_paInit (s : State) (w : CmdWord) : (s.withCommand w).paInit = s.paInit := rfl
@[simp] theorem State.withCommand_paShutdown (s : State) (w : CmdWord) : (s.withCommand w).paShutdown = s.paShutdown := rfl
@[simp] theorem State.withCommand_inputs (s : State) (w : CmdWord) : (s.withCommand w).inputs = commandCycle w :: s.inputs := rfl
@[simp] theorem State.withCommand_cycle (s : State) (w : CmdWord) : (s.withCommand w).cycle = s.cycle := rfl

end Sys2Proof.Machine
end

