-- ==== Sys2Proof/Laws/Ops.lean ====
section
/-! SUPPORT. What each shared operation can do, said once: the frame stores, the codes, the end of a pass, the handshake and
poll steps. Proofs cite these and do not unfold the operations. -/

namespace Sys2Proof.Machine

/-! ### Inputs -/

theorem State.input_of_cons {s : State} {i : Inputs} {r : List Inputs} (h : s.inputs = i :: r) : s.input = i := by
  simp [State.input, h]

/-- The input ports of a state written out, whatever its registers: the head of its list. -/
@[simp] theorem State.input_mk_cons (fsm variant cache cacheValid buf bitcnt phase cnt last timeout dly rspValid rspCode
    rspData lineOe lineOut pull paInit paShutdown i r cycle) :
    (State.mk fsm variant cache cacheValid buf bitcnt phase cnt last timeout dly rspValid rspCode rspData lineOe lineOut
      pull paInit paShutdown (i :: r) cycle).input = i := rfl

theorem State.input_congr {s t : State} (hi : s.inputs = t.inputs) (hc : s.cycle = t.cycle) : s.input = t.input := by
  simp [State.input, hi, hc]

@[simp] theorem State.withCommand_input (s : State) (w : CmdWord) : (s.withCommand w).input = commandCycle w := rfl

@[simp] theorem State.withCommand_ready (s : State) (w : CmdWord) : (s.withCommand w).cmdReady = true := by
  unfold State.withCommand State.cmdReady
  cases h : s.fsm <;> rfl

/-! ### Frames -/

theorem Frame.get_set_self (f : Frame) {i : Nat} (h : i < 5) (v : Byte) : (f.set i v).get i = v := by
  match i, h with
  | 0, _ => rfl
  | 1, _ => rfl
  | 2, _ => rfl
  | 3, _ => rfl
  | 4, _ => rfl

theorem Frame.get_set_other (f : Frame) {i j : Nat} (hi : i < 5) (hj : j < 5) (h : i ≠ j) (v : Byte) :
    (f.set i v).get j = f.get j := by
  match i, hi, j, hj with
  | 0, _, 0, _ | 1, _, 1, _ | 2, _, 2, _ | 3, _, 3, _ | 4, _, 4, _ => exact absurd rfl h
  | 0, _, 1, _ | 0, _, 2, _ | 0, _, 3, _ | 0, _, 4, _ => rfl
  | 1, _, 0, _ | 1, _, 2, _ | 1, _, 3, _ | 1, _, 4, _ => rfl
  | 2, _, 0, _ | 2, _, 1, _ | 2, _, 3, _ | 2, _, 4, _ => rfl
  | 3, _, 0, _ | 3, _, 1, _ | 3, _, 2, _ | 3, _, 4, _ => rfl
  | 4, _, 0, _ | 4, _, 1, _ | 4, _, 2, _ | 4, _, 3, _ => rfl

/-- Two frames with the same five bytes are the same frame. -/
theorem Frame.eq_of_get {f g : Frame} (h : ∀ i < 5, f.get i = g.get i) : f = g := by
  cases f
  cases g
  have h0 := h 0 (by omega)
  have h1 := h 1 (by omega)
  have h2 := h 2 (by omega)
  have h3 := h 3 (by omega)
  have h4 := h 4 (by omega)
  simp only [Frame.get] at h0 h1 h2 h3 h4
  simp [h0, h1, h2, h3, h4]

/-! ### Codes and error data -/

theorem RspCode.bits_le (c : RspCode) : c.bits.toNat ≤ 10 := by cases c <;> decide

theorem RspCode.bits_injective {c d : RspCode} (h : c.bits = d.bits) : c = d := by
  cases c <;> cases d <;> first | rfl | exact absurd h (by decide)

@[simp] theorem errorData_of_ne_noData {e : RspCode} (h : e ≠ .noData) (k : Nat) : errorData e k = 0#40 := by
  cases e <;> first | rfl | exact absurd rfl h

/-! ### Classification and the end of a pass -/

theorem classify_valid_iff (n : BitVec 6) (f : Frame) (b : Bool) :
    classify n f b = .valid ↔ frameComplete n = true ∧ validate f = true := by
  unfold classify
  cases frameComplete n <;> cases validate f <;> cases b <;> simp

theorem classify_incomplete_iff (n : BitVec 6) (f : Frame) (b : Bool) :
    classify n f b = .incomplete ↔ frameComplete n = false ∧ b = false := by
  unfold classify
  cases frameComplete n <;> cases validate f <;> cases b <;> simp

theorem classify_timeout_iff (n : BitVec 6) (f : Frame) (b : Bool) :
    classify n f b = .samplingTimeout ↔ frameComplete n = false ∧ b = true := by
  unfold classify
  cases frameComplete n <;> cases validate f <;> cases b <;> simp

theorem classify_mismatch_iff (n : BitVec 6) (f : Frame) (b : Bool) :
    classify n f b = .checksumMismatch ↔ frameComplete n = true ∧ validate f = false := by
  unfold classify
  cases frameComplete n <;> cases validate f <;> cases b <;> simp

/-- Everything the end of a pass can do: commit and answer Valid, or answer the error and keep the cache. -/
theorem State.endPass_cases (s t : State) :
    (classify s.bitcnt s.buf t.timeout = .valid ∧
      s.endPass t = { t with cache := s.buf, cacheValid := true, rspValid := true, rspCode := RspCode.valid.bits,
                             rspData := s.buf.data, fsm := .frameReady }) ∨
    (∃ o, classify s.bitcnt s.buf t.timeout = o ∧ o ≠ .valid ∧
      s.endPass t = { t with rspValid := true, rspCode := o.code.bits, rspData := 0#40, fsm := .failed }) := by
  cases h : classify s.bitcnt s.buf t.timeout
  · left
    exact ⟨rfl, by simp [State.endPass, h, State.commitCache, State.respond]⟩
  all_goals
    right
    exact ⟨_, rfl, by simp, by simp [State.endPass, h, State.raiseError, State.respond, ReadOutcome.code]⟩

/-- The end of a pass as one record: the outcome decides the response, the cache and the next sequencer state. -/
theorem State.endPass_eq (s t : State) :
    s.endPass t = { t with
      rspValid := true
      rspCode := (classify s.bitcnt s.buf t.timeout).code.bits
      rspData := if classify s.bitcnt s.buf t.timeout = .valid then s.buf.data else 0#40
      cache := if classify s.bitcnt s.buf t.timeout = .valid then s.buf else t.cache
      cacheValid := if classify s.bitcnt s.buf t.timeout = .valid then true else t.cacheValid
      fsm := if classify s.bitcnt s.buf t.timeout = .valid then .frameReady else .failed } := by
  rcases State.endPass_cases s t with ⟨h, e⟩ | ⟨o, h, ho, e⟩
  · rw [e, h]
    rfl
  · rw [e, h]
    simp [ho]

/-! ### The sampler's steps -/

/-- Everything a StartLow step can do. -/
theorem startLowStep_cases (s : State) :
    (s.input.usEn = false ∧ startLowStep s = s.nextCycle) ∨
    (s.input.usEn = true ∧ 1 < s.dly.toNat ∧ startLowStep s = { s with
        rspValid := false, paInit := false, paShutdown := false, inputs := s.inputs.tail, cycle := s.cycle + 1,
        dly := s.dly - 1#32 }) ∨
    (s.input.usEn = true ∧ s.dly.toNat ≤ 1 ∧
      startLowStep s = { s with
        rspValid := false, paInit := false, paShutdown := false, inputs := s.inputs.tail, cycle := s.cycle + 1,
        lineOut := .high, dly := 50#32, fsm := .releaseHigh }) := by
  unfold startLowStep
  by_cases hu : s.input.usEn = true
  · by_cases hd : 1 < s.dly.toNat
    · exact .inr (.inl ⟨hu, hd, by simp [hu, hd, State.nextCycle]⟩)
    · exact .inr (.inr ⟨hu, by omega, by simp [hu, hd, State.nextCycle]⟩)
  · exact .inl ⟨by simpa using hu, by simp [hu]⟩

/-- Everything a ReleaseHigh step can do. -/
theorem releaseHighStep_cases (s : State) :
    (s.input.usEn = false ∧ releaseHighStep s = s.nextCycle) ∨
    (s.input.usEn = true ∧ 1 < s.dly.toNat ∧ releaseHighStep s = { s with
        rspValid := false, paInit := false, paShutdown := false, inputs := s.inputs.tail, cycle := s.cycle + 1,
        dly := s.dly - 1#32 }) ∨
    (s.input.usEn = true ∧ s.dly.toNat ≤ 1 ∧
      releaseHighStep s = { s with
        rspValid := false, paInit := false, paShutdown := false, inputs := s.inputs.tail, cycle := s.cycle + 1,
        lineOe := false, pull := pullUp, fsm := .poll }) := by
  unfold releaseHighStep
  by_cases hu : s.input.usEn = true
  · by_cases hd : 1 < s.dly.toNat
    · exact .inr (.inl ⟨hu, hd, by simp [hu, hd, State.nextCycle]⟩)
    · exact .inr (.inr ⟨hu, by omega, by simp [hu, hd, State.nextCycle]⟩)
  · exact .inl ⟨by simpa using hu, by simp [hu]⟩

/-- The state a saturating poll leaves before the pass ends. -/
def afterSaturation (s : State) : State :=
  { s with
    rspValid := false
    paInit := false
    paShutdown := false
    inputs := s.inputs.tail
    cycle := s.cycle + 1
    cnt := 255#8
    timeout := true }

/-- The state a poll with a changed level leaves before the pass may end. -/
def afterPhase (s : State) : State :=
  { s with
    rspValid := false
    paInit := false
    paShutdown := false
    inputs := s.inputs.tail
    cycle := s.cycle + 1
    buf := (s.assembly.decodePhase s.phase s.cnt).buf
    bitcnt := (s.assembly.decodePhase s.phase s.cnt).bitcnt
    last := s.input.lineIn
    cnt := 0#8
    phase := s.phase + 1#7 }

/-- Everything a Poll step can do. -/
theorem pollStep_cases (s : State) :
    (s.input.pollEn = false ∧ pollStep s = s.nextCycle) ∨
    (s.input.pollEn = true ∧ s.input.lineIn = s.last ∧ s.cnt.toNat < 254 ∧
      pollStep s = { s with
        rspValid := false, paInit := false, paShutdown := false, inputs := s.inputs.tail, cycle := s.cycle + 1,
        cnt := s.cnt + 1#8 }) ∨
    (s.input.pollEn = true ∧ s.input.lineIn = s.last ∧ 254 ≤ s.cnt.toNat ∧
      pollStep s = s.endPass (afterSaturation s)) ∨
    (s.input.pollEn = true ∧ s.input.lineIn ≠ s.last ∧ s.phase.toNat ≠ 84 ∧ pollStep s = afterPhase s) ∨
    (s.input.pollEn = true ∧ s.input.lineIn ≠ s.last ∧ s.phase.toNat = 84 ∧ pollStep s = s.endPass (afterPhase s)) := by
  unfold pollStep
  by_cases hp : s.input.pollEn = true
  · by_cases hl : s.input.lineIn = s.last
    · by_cases hc : s.cnt.toNat < 254
      · exact .inr (.inl ⟨hp, hl, hc, by simp [hp, hl, pollSame, hc, State.nextCycle]⟩)
      · exact .inr (.inr (.inl ⟨hp, hl, by omega, by
        simp [hp, hl, pollSame, hc, State.nextCycle, afterSaturation]⟩))
    · by_cases h84 : s.phase.toNat = 84
      · exact .inr (.inr (.inr (.inr ⟨hp, hl, h84, by
          simp [hp, hl, pollChanged, h84, Config.maxPhases, State.nextCycle, afterPhase]⟩)))
      · exact .inr (.inr (.inr (.inl ⟨hp, hl, h84, by
          simp [hp, hl, pollChanged, h84, Config.maxPhases, State.nextCycle, afterPhase]⟩)))
  · exact .inl ⟨by simpa using hp, by simp [hp]⟩

/-! ### Bits -/

/-- Everything `decode_phase` can do (R131). -/
theorem Assembly.decodePhase_cases (a : Assembly) (p : BitVec 7) (c : BitVec 8) :
    (isSlot p = true ∧ a.bitcnt.toNat < 40 ∧ a.decodePhase p c = a.storeBit (bitOf c)) ∨
    ((isSlot p = false ∨ 40 ≤ a.bitcnt.toNat) ∧ a.decodePhase p c = a) := by
  unfold Assembly.decodePhase
  by_cases hs : isSlot p = true
  · by_cases hb : a.bitcnt.toNat < 40
    · exact .inl ⟨hs, hb, by simp [hs, hb, Config.frameBits]⟩
    · exact .inr ⟨.inr (by omega), by simp [hb, Config.frameBits]⟩
  · exact .inr ⟨.inl (by simpa using hs), by simp [hs]⟩

theorem Assembly.storeBit_bitcnt (a : Assembly) (b : Bool) (h : a.bitcnt.toNat < 40) :
    (a.storeBit b).bitcnt.toNat = a.bitcnt.toNat + 1 := by
  simp only [Assembly.storeBit, BitVec.toNat_add]
  have : (1#6).toNat = 1 := rfl
  omega

theorem isSlot_iff (p : BitVec 7) : isSlot p = true ↔ 4 ≤ p.toNat ∧ p.toNat % 2 = 0 := by
  simp [isSlot, Config.firstDataPhase]

theorem bitOf_iff (c : BitVec 8) : bitOf c = true ↔ 16 < c.toNat := by
  simp [bitOf, Config.bitThreshold]

theorem slotsBelow_succ (p : Nat) :
    slotsBelow (p + 1) = slotsBelow p + if 4 ≤ p ∧ p % 2 = 0 then 1 else 0 := by
  unfold slotsBelow
  rw [List.range_succ, List.filter_append, List.length_append]
  congr 1
  by_cases h : 4 ≤ p ∧ p % 2 = 0 <;> simp [h]

end Sys2Proof.Machine
end

