-- ==== Sys2Proof/Laws/Exec.lean ====
section
/-! SUPPORT. What each command and the decoder can do, said once. Proofs cite these and do not unfold a meaning. -/

namespace Sys2Proof.Machine

/-! ### Operands -/

theorem variantOfCode_eq_none_iff (a : Nat) : variantOfCode a = none ↔ a ≠ 11 ∧ a ≠ 22 := by
  unfold variantOfCode
  split_ifs <;> simp_all

theorem variantOfCode_eq_some_iff (a : Nat) (v : Variant) :
    variantOfCode a = some v ↔ (a = 11 ∧ v = .a) ∨ (a = 22 ∧ v = .b) := by
  unfold variantOfCode
  split_ifs <;> cases v <;> simp_all

/-! ### The commands -/

/-- Everything OPEN can do. -/
theorem execOpen_cases (arg : Nat) (s : State) :
    (s.fsm ≠ .closed ∧ execOpen arg s = .next (s.nextCycle.raiseError .alreadyOpen)) ∨
    (s.fsm = .closed ∧ variantOfCode arg = none ∧ execOpen arg s = .next (s.nextCycle.raiseError .configError)) ∨
    (s.fsm = .closed ∧ s.input.initOk = false ∧ ∃ v, variantOfCode arg = some v ∧
      execOpen arg s = .next ({ s.nextCycle with paInit := true }.raiseError .initError)) ∨
    (s.fsm = .closed ∧ s.input.initOk = true ∧ ∃ v, variantOfCode arg = some v ∧
      execOpen arg s =
        .next ({ s.nextCycle with paInit := true, variant := v, cacheValid := false, fsm := .idle }.respond .ok 0#40)) := by
  unfold execOpen
  by_cases hf : s.fsm = .closed
  · cases hv : variantOfCode arg with
    | none => exact .inr (.inl ⟨hf, rfl, by simp [hf]⟩)
    | some v =>
      cases hi : s.input.initOk
      · exact .inr (.inr (.inl ⟨hf, rfl, v, rfl, by simp [hf]⟩))
      · exact .inr (.inr (.inr ⟨hf, rfl, v, rfl, by simp [hf]⟩))
  · exact .inl ⟨hf, by simp [hf]⟩

/-- Everything READ can do. -/
theorem execRead_cases (s : State) :
    (s.fsm = .closed ∧ execRead s = .next (s.nextCycle.raiseError .notOpen)) ∨
    (s.fsm ≠ .closed ∧ execRead s = .next s.nextCycle.startPass) := by
  unfold execRead
  by_cases hf : s.fsm = .closed <;> simp [hf]

/-- Everything TEMP can do. -/
theorem execTemp_cases (s : State) :
    (s.fsm = .closed ∧ execTemp s = .next (s.nextCycle.raiseError .notOpen)) ∨
    (s.fsm ≠ .closed ∧ s.cacheValid = false ∧ execTemp s = .next (s.nextCycle.raiseError .noData)) ∨
    (s.fsm ≠ .closed ∧ s.cacheValid = true ∧
      execTemp s = .next (s.nextCycle.respond .ok (tempData s.variant s.cache))) := by
  unfold execTemp
  by_cases hf : s.fsm = .closed <;> cases hc : s.cacheValid <;> simp [hf]

/-- Everything HUM can do. -/
theorem execHum_cases (s : State) :
    (s.fsm = .closed ∧ execHum s = .next (s.nextCycle.raiseError .notOpen)) ∨
    (s.fsm ≠ .closed ∧ s.cacheValid = false ∧ execHum s = .next (s.nextCycle.raiseError .noData)) ∨
    (s.fsm ≠ .closed ∧ s.cacheValid = true ∧
      execHum s = .next (s.nextCycle.respond .ok (humData s.variant s.cache))) := by
  unfold execHum
  by_cases hf : s.fsm = .closed <;> cases hc : s.cacheValid <;> simp [hf]

/-- Everything CLOSE can do. -/
theorem execClose_cases (s : State) :
    (s.fsm = .idle ∧ execClose s =
      .next ({ s.nextCycle with lineOe := false, pull := pullNone, paShutdown := true, fsm := .closed }.respond .ok 0#40)) ∨
    (s.fsm ≠ .idle ∧ execClose s = .next (s.nextCycle.respond .ok 0#40)) := by
  unfold execClose
  by_cases hf : s.fsm = .idle <;> simp [hf]

/-- A command always answers a next state, in the next cycle. -/
theorem exec_answers_next (i : Instr) (s : State) :
    ∃ t, exec i s = .next t ∧ t.inputs = s.inputs.tail ∧ t.cycle = s.cycle + 1 := by
  cases i with
  | cmdOpen arg =>
    rcases execOpen_cases arg s with ⟨_, h⟩ | ⟨_, _, h⟩ | ⟨_, _, v, _, h⟩ | ⟨_, _, v, _, h⟩ <;> exact ⟨_, h, rfl, rfl⟩
  | cmdRead => rcases execRead_cases s with ⟨_, h⟩ | ⟨_, h⟩ <;> exact ⟨_, h, rfl, rfl⟩
  | cmdTemp => rcases execTemp_cases s with ⟨_, h⟩ | ⟨_, _, h⟩ | ⟨_, _, h⟩ <;> exact ⟨_, h, rfl, rfl⟩
  | cmdHum => rcases execHum_cases s with ⟨_, h⟩ | ⟨_, _, h⟩ | ⟨_, _, h⟩ <;> exact ⟨_, h, rfl, rfl⟩
  | cmdClose => rcases execClose_cases s with ⟨_, h⟩ | ⟨_, h⟩ <;> exact ⟨_, h, rfl, rfl⟩

/-! ### Stored bits -/

/-- The bit count after the phase with index `p` is the number of slots up to `p`, at most 40, if it was so before. -/
theorem Assembly.decodePhase_bitcnt (a : Assembly) (p : BitVec 7) (c : BitVec 8)
    (h : a.bitcnt.toNat = min 40 (slotsBelow p.toNat)) :
    (a.decodePhase p c).bitcnt.toNat = min 40 (slotsBelow (p.toNat + 1)) := by
  rw [slotsBelow_succ]
  rcases Assembly.decodePhase_cases a p c with ⟨h1, h2, h3⟩ | ⟨h1, h3⟩ <;> rw [h3]
  · rw [isSlot_iff] at h1
    rw [Assembly.storeBit_bitcnt _ _ h2, if_pos h1]
    omega
  · rcases h1 with h1 | h1
    · have : ¬(4 ≤ p.toNat ∧ p.toNat % 2 = 0) := by
        rw [← isSlot_iff]
        simp [h1]
      rw [if_neg this]
      omega
    · omega

end Sys2Proof.Machine
end

