-- ==== Sys2Proof/Laws/PerInstr.lean ====
section
/-! SUPPORT. Statements about every command as syntax, one lemma per constructor. Family `TableRow`: the word of a well-formed
command lies in its own row of the opcode map R71. -/

namespace Sys2Proof.Laws.TableRow

/-- The mask of a command's row in R71. -/
def rowMask : Instr → CmdWord
  | .cmdOpen _ => 0xFF00#16
  | .cmdRead => 0xFFFF#16
  | .cmdTemp => 0xFFFF#16
  | .cmdHum => 0xFFFF#16
  | .cmdClose => 0xFFFF#16

/-- The match value of a command's row in R71. -/
def rowMatch : Instr → CmdWord
  | .cmdOpen _ => 0x0100#16
  | .cmdRead => 0x0200#16
  | .cmdTemp => 0x0300#16
  | .cmdHum => 0x0400#16
  | .cmdClose => 0x0500#16

/-- The word of a well-formed command is in its row: `(w & mask) = match`. -/
def Statement (i : Instr) : Prop := i.WellFormed → encode i &&& rowMask i = rowMatch i

theorem cmdOpen (arg : Nat) : Statement (.cmdOpen arg) := by
  intro _
  show (0x01#8 ++ BitVec.ofNat 8 arg) &&& 0xFF00#16 = 0x0100#16
  generalize BitVec.ofNat 8 arg = a
  revert a
  decide

theorem cmdRead : Statement .cmdRead := fun _ => rfl
theorem cmdTemp : Statement .cmdTemp := fun _ => rfl
theorem cmdHum : Statement .cmdHum := fun _ => rfl
theorem cmdClose : Statement .cmdClose := fun _ => rfl

end Sys2Proof.Laws.TableRow
end

