-- ==== Sys2Proof/Laws/Steps.lean ====
section
/-! SUPPORT. What one step can do, said once, and the lemmas about runs and traces that inductions over steps use. -/

namespace Sys2Proof.Machine

/-- Everything the command port can do in Closed or Idle. -/
theorem commandStep_cases (s : State) :
    (s.input.cmdValid = false ∧ commandStep s = .next s.nextCycle) ∨
    (s.input.cmdValid = true ∧ ∃ i, decode s.input.cmd = .ok i ∧ commandStep s = exec i s) ∨
    (s.input.cmdValid = true ∧ ∃ e, decode s.input.cmd = .error e ∧
      commandStep s = .next (s.nextCycle.raiseError .illegalCommand)) := by
  unfold commandStep
  by_cases hv : s.input.cmdValid = true
  · cases hd : decode s.input.cmd with
    | ok i => exact .inr (.inl ⟨hv, i, rfl, by simp [hv]⟩)
    | error e => exact .inr (.inr ⟨hv, e, rfl, by simp [hv]⟩)
  · exact .inl ⟨by simpa using hv, by simp [hv]⟩

/-- Everything a step can do: one case per row of the state machine (R210). -/
theorem step_cases (s : State) :
    (s.input.rst = true ∧ step s = .next s.applyReset) ∨
    (s.input.rst = false ∧ s.fsm.resting = true ∧ step s = commandStep s) ∨
    (s.input.rst = false ∧ s.fsm = .startLow ∧ step s = .next (startLowStep s)) ∨
    (s.input.rst = false ∧ s.fsm = .releaseHigh ∧ step s = .next (releaseHighStep s)) ∨
    (s.input.rst = false ∧ s.fsm = .poll ∧ step s = .next (pollStep s)) ∨
    (s.input.rst = false ∧ (s.fsm = .frameReady ∨ s.fsm = .failed) ∧ step s = .next (returnStep s)) := by
  unfold step
  by_cases hr : s.input.rst = true
  · exact .inl ⟨hr, by simp [hr]⟩
  · have hr' : s.input.rst = false := by simpa using hr
    cases hf : s.fsm <;> simp [hr', Fsm.resting]

/-! ### Runs and traces -/

@[simp] theorem run_zero (s : State) : run 0 s = .next s := rfl

theorem run_succ_of_next {s t : State} (h : step s = .next t) (n : Nat) : run (n + 1) s = run n t := by
  simp [run, h]

theorem run_add {s t : State} {m : Nat} (h : run m s = .next t) (n : Nat) : run (m + n) s = run n t := by
  induction m generalizing s with
  | zero =>
    simp only [run_zero, Host.Outcome.next.injEq] at h
    simp [h]
  | succ m ih =>
    rw [Nat.succ_add]
    cases hs : step s with
    | next u =>
      rw [run_succ_of_next hs] at h ⊢
      exact ih h
    | fault f => exact nomatch f
    | refused r => simp [run, hs] at h

@[simp] theorem trace_zero {α : Type} (f : State → List α) (s : State) : trace f 0 s = [] := rfl

theorem trace_succ_of_next {α : Type} (f : State → List α) {s t : State} (h : step s = .next t) (n : Nat) :
    trace f (n + 1) s = f s ++ trace f n t := by
  simp [trace, h]

theorem trace_add {α : Type} (f : State → List α) {s t : State} {m : Nat} (h : run m s = .next t) (n : Nat) :
    trace f (m + n) s = trace f m s ++ trace f n t := by
  induction m generalizing s with
  | zero =>
    simp only [run_zero, Host.Outcome.next.injEq] at h
    simp [h]
  | succ m ih =>
    rw [Nat.succ_add]
    cases hs : step s with
    | next u =>
      rw [run_succ_of_next hs] at h
      rw [trace_succ_of_next f hs, trace_succ_of_next f hs, ih h, List.append_assoc]
    | fault f => exact nomatch f
    | refused r => simp [run, hs] at h

theorem host_run_succ (M : Host.Core) {s t : M.State} (h : M.step s = .next t) (n : Nat) :
    M.run (n + 1) s = M.run n t := by
  simp [Host.Core.run, h]

/-- `run` is the host interface's own run of this machine. -/
theorem core_run_eq_run (n : Nat) (s : State) : Sys2Proof.core.run n s = run n s := by
  induction n generalizing s with
  | zero => rfl
  | succ n ih =>
    cases hs : step s with
    | next t => exact ((host_run_succ Sys2Proof.core hs n).trans (ih t)).trans (run_succ_of_next hs n).symm
    | fault f => exact nomatch f
    | refused r =>
      have hc : ∀ M : Host.Core, ∀ s r, M.step s = .refused r → M.run (n + 1) s = .refused r := by
        intro M s r h
        simp [Host.Core.run, h]
      have hr : run (n + 1) s = .refused r := by simp [run, hs]
      exact (hc Sys2Proof.core s r hs).trans hr.symm

end Sys2Proof.Machine
end

