-- ==== Sys2Proof/Tests/Slice0.lean ====
section
/-! SUPPORT. The package's own tests and the witnesses of the statements' hypotheses. The expected values are those of the
spec's 95_test_vectors.md, whose numbers (V1, V61, B3, ...) the theorems name. -/

namespace Sys2Proof.Tests
open Sys2Proof.Machine

/-! ### Helpers -/

/-- The next state of a result, none where it is a stop. -/
def nextOf : Result → Option State
  | .next t => some t
  | .fault _ => none
  | .refused _ => none

/-- A view of the state after one step. -/
def after {α : Type} (s : State) (f : State → α) : Option α := (nextOf (step s)).map f

/-- One step answers a next state, and the test holds of it. -/
def check (s : State) (p : State → Bool) : Bool := ((nextOf (step s)).map p).getD false

/-- A quiet cycle: no reset, no enable, no command, the line High. -/
def quiet : Inputs := { commandCycle 0x0000#16 with cmdValid := false }

/-- A cycle that presents a command, with `init_ok` = 1. -/
def cmd (w : CmdWord) : Inputs := commandCycle w

/-- A cycle with a `us_en` pulse. -/
def us : Inputs := { quiet with usEn := true }

/-- A cycle with a poll that samples the level. -/
def poll (l : Level) : Inputs := { quiet with pollEn := true, lineIn := l }

/-- A cycle with `rst` = 1 that also presents a READ. -/
def resetCycle : Inputs := { commandCycle 0x0200#16 with rst := true }

/-- The frame of V20 and S4: 35, 0, 26, 0, 61. -/
def frame1 : Frame := ⟨35#8, 0#8, 26#8, 0#8, 61#8⟩

/-- Closed, with the inputs given. -/
def closed (i : List Inputs) : State := { State.reset with inputs := i }

/-- Idle as variant A with a valid frame and the pull-up on. -/
def idleA (i : List Inputs) : State :=
  { State.reset with fsm := .idle, cache := frame1, cacheValid := true, pull := pullUp, inputs := i }

/-- Idle as variant B with the frame of V69. -/
def idleB (i : List Inputs) : State :=
  { idleA i with variant := .b, cache := ⟨1#8, 144#8, 128#8, 101#8, 118#8⟩ }

/-- Idle without a frame. -/
def idleEmpty (i : List Inputs) : State := { State.reset with fsm := .idle, inputs := i }

/-- StartLow with the count given. -/
def startLow (d : BitVec 32) (i : List Inputs) : State :=
  { State.reset with fsm := .startLow, dly := d, lineOe := true, lineOut := .low, last := .high, inputs := i }

/-- ReleaseHigh with the count given. -/
def releaseHigh (d : BitVec 32) (i : List Inputs) : State :=
  { State.reset with fsm := .releaseHigh, dly := d, lineOe := true, last := .high, inputs := i }

/-- Poll in phase `p` with count `c`, level `l` and `n` bits stored in `b`. -/
def polling (p : BitVec 7) (c : BitVec 8) (l : Level) (n : BitVec 6) (b : Frame) (i : List Inputs) : State :=
  { State.reset with
    fsm := .poll, pull := pullUp, phase := p, cnt := c, last := l, bitcnt := n, buf := b, dly := 1#32, inputs := i }

/-- FrameReady after a Valid pass. -/
def ready (i : List Inputs) : State :=
  { idleA i with fsm := .frameReady, rspValid := true, rspCode := 1#4, rspData := frame1.data }

/-- Failed after a SamplingTimeout. -/
def failed (i : List Inputs) : State := { idleEmpty i with fsm := .failed, rspValid := true, rspCode := 4#4 }

/-! ### WellFormed: its one check refuses an operand that does not fit the field -/

theorem test_wellFormed_refuses_operand_256 : Instr.wellFormed (.cmdOpen 256) = false := by decide

theorem test_wellFormed_accepts_all_rows :
    [Instr.cmdOpen 255, .cmdRead, .cmdTemp, .cmdHum, .cmdClose].all Instr.wellFormed = true := by decide

/-! ### Decode: V1 to V6, the words written out bit by bit; the opcode table's numbering; the assembler of R76 -/

theorem test_decode_open :
    decode 0b0000000100001011#16 = .ok (.cmdOpen 11) ∧ decode 0b0000000100010110#16 = .ok (.cmdOpen 22) ∧
    decode 0b0000000100000000#16 = .ok (.cmdOpen 0) ∧ decode 0b0000000100000111#16 = .ok (.cmdOpen 7) ∧
    decode 0b0000000111111111#16 = .ok (.cmdOpen 255) := by decide

theorem test_decode_read : decode 0b0000001000000000#16 = .ok .cmdRead := by decide
theorem test_decode_temp : decode 0b0000001100000000#16 = .ok .cmdTemp := by decide
theorem test_decode_hum : decode 0b0000010000000000#16 = .ok .cmdHum := by decide
theorem test_decode_close : decode 0b0000010100000000#16 = .ok .cmdClose := by decide

theorem test_decode_illegal :
    decode 0x0201#16 = .error (.nonzeroOperand 2#8 1#8) ∧ decode 0x03FF#16 = .error (.nonzeroOperand 3#8 255#8) ∧
    decode 0x0480#16 = .error (.nonzeroOperand 4#8 128#8) ∧ decode 0x0501#16 = .error (.nonzeroOperand 5#8 1#8) ∧
    decode 0x0000#16 = .error (.unknownOpcode 0#8) ∧ decode 0x000B#16 = .error (.unknownOpcode 0#8) ∧
    decode 0x0600#16 = .error (.unknownOpcode 6#8) ∧ decode 0x0B00#16 = .error (.unknownOpcode 11#8) ∧
    decode 0xFFFF#16 = .error (.unknownOpcode 255#8) := by decide

theorem test_decodeTableWord :
    decodeTableWord 16 0x010B = some (.cmdOpen 11) ∧ decodeTableWord 16 0x0200 = some .cmdRead ∧
    decodeTableWord 16 0x0300 = some .cmdTemp ∧ decodeTableWord 16 0x0400 = some .cmdHum ∧
    decodeTableWord 16 0x0500 = some .cmdClose ∧ decodeTableWord 16 0x0201 = none := by decide

theorem test_assemble :
    assemble .openA = 0x010B#16 ∧ assemble .openB = 0x0116#16 ∧ assemble (.openNum 7#8) = 0x0107#16 ∧
    assemble .read = 0x0200#16 ∧ assemble .temp = 0x0300#16 ∧ assemble .hum = 0x0400#16 ∧
    assemble .close = 0x0500#16 ∧ assemble (.word 0x0201#16) = 0x0201#16 := by decide

/-! ### One step of each command -/

/-- V61. -/
theorem test_open_ok :
    check { closed [cmd 0x010B#16] with variant := .b, cacheValid := true }
      (fun t => t.fsm = .idle ∧ t.variant = .a ∧ t.cacheValid = false ∧ t.paInit = true ∧ t.rspValid = true ∧
        t.rspCode = 0#4 ∧ t.rspData = 0#40) = true := by decide

/-- V62, V63, V64. -/
theorem test_open_errors :
    after (closed [{ cmd 0x0116#16 with initOk := false }]) (fun t => (t.fsm, t.paInit, t.rspCode)) =
      some (.closed, true, 5#4) ∧
    after (closed [cmd 0x0107#16]) (fun t => (t.fsm, t.paInit, t.rspCode)) = some (.closed, false, 6#4) ∧
    after (idleA [cmd 0x0116#16]) (fun t => (t.fsm, t.variant, t.paInit, t.rspCode)) =
      some (.idle, .a, false, 8#4) := by decide

/-- V7: the start state has leftovers of an earlier pass. -/
theorem test_read_starts_pass :
    check { idleA [cmd 0x0200#16] with timeout := true, bitcnt := 40#6, buf := frame1, phase := 84#7, cnt := 255#8 }
      (fun t => t.fsm = .startLow ∧ t.buf = Frame.zero ∧ t.bitcnt = 0#6 ∧ t.timeout = false ∧ t.phase = 0#7 ∧
        t.cnt = 0#8 ∧ t.last = .high ∧ t.lineOe = true ∧ t.lineOut = .low ∧ t.dly = 20000#32 ∧ t.pull = 1#2 ∧
        t.cacheValid = true ∧ t.rspValid = false) = true := by decide

/-- V65. -/
theorem test_read_closed :
    after (closed [cmd 0x0200#16]) (fun t => (t.fsm, t.lineOe, t.rspValid, t.rspCode, t.rspData)) =
      some (.closed, false, true, 7#4, 0#40) := by decide

/-- V68, V69. -/
theorem test_temp_ok :
    after (idleA [cmd 0x0300#16]) (fun t => (t.rspCode, t.rspData)) = some (0#4, 0x0000000104#40) ∧
    after (idleB [cmd 0x0300#16]) (fun t => (t.rspCode, t.rspData)) = some (0#4, 0x000000FF9B#40) := by decide

/-- V66, V67. -/
theorem test_temp_errors :
    after (closed [cmd 0x0300#16]) (fun t => (t.fsm, t.rspCode, t.rspData)) = some (.closed, 7#4, 0#40) ∧
    after (idleEmpty [cmd 0x0300#16]) (fun t => (t.fsm, t.rspCode)) = some (.idle, 9#4) := by decide

/-- V68a, V69a. -/
theorem test_hum_ok :
    after (idleA [cmd 0x0400#16]) (fun t => (t.rspCode, t.rspData)) = some (0#4, 0x000000015E#40) ∧
    after (idleB [cmd 0x0400#16]) (fun t => (t.rspCode, t.rspData)) = some (0#4, 0x0000000190#40) := by decide

/-- V66, V67. -/
theorem test_hum_errors :
    after (closed [cmd 0x0400#16]) (fun t => (t.fsm, t.rspCode, t.rspData)) = some (.closed, 7#4, 0#40) ∧
    after (idleEmpty [cmd 0x0400#16]) (fun t => (t.fsm, t.rspCode)) = some (.idle, 9#4) := by decide

/-- V70. -/
theorem test_close_idle :
    after (idleA [cmd 0x0500#16]) (fun t => (t.fsm, t.lineOe, t.pull, t.paShutdown, t.cacheValid, t.rspCode)) =
      some (.closed, false, 0#2, true, true, 0#4) := by decide

/-- V71. -/
theorem test_close_closed :
    after (closed [cmd 0x0500#16]) (fun t => (t.fsm, t.paShutdown, t.rspValid, t.rspCode)) =
      some (.closed, false, true, 0#4) := by decide

/-- V72: never NotOpen. -/
theorem test_illegal_word :
    after (closed [cmd 0x0201#16]) (fun t => (t.fsm, t.rspCode)) = some (.closed, 10#4) ∧
    after (idleA [cmd 0xFFFF#16]) (fun t => (t.fsm, t.rspCode)) = some (.idle, 10#4) := by decide

/-- The host's reading of a table word: it runs as the first instruction after reset. -/
theorem test_withFetchWord :
    after (State.reset.withFetchWord 16 0x0116) (fun t => (t.fsm, t.variant, t.rspCode)) = some (.idle, .b, 0#4) ∧
    after (State.reset.withFetchWord 16 0x0200) (fun t => t.rspCode) = some 7#4 := by decide

/-! ### One step of the handshake, of the poll loop, of the end of a pass, and of reset -/

/-- V8, V9, V10. -/
theorem test_startLow :
    after (startLow 2#32 [us]) (fun t => (t.fsm, t.dly)) = some (.startLow, 1#32) ∧
    after (startLow 2#32 [poll .low]) (fun t => (t.fsm, t.dly)) = some (.startLow, 2#32) ∧
    after (startLow 1#32 [us]) (fun t => (t.fsm, t.dly, t.lineOut, t.lineOe)) =
      some (.releaseHigh, 50#32, .high, true) := by decide

/-- V11, V12. -/
theorem test_releaseHigh :
    after (releaseHigh 1#32 [us]) (fun t => (t.fsm, t.dly, t.lineOe, t.pull)) = some (.poll, 1#32, false, 1#2) ∧
    after (releaseHigh 50#32 [{ us with pollEn := true, lineIn := .low }]) (fun t => (t.fsm, t.dly)) =
      some (.releaseHigh, 49#32) := by decide

/-- V13, V14: the threshold. -/
theorem test_poll_threshold :
    after (polling 4#7 16#8 .high 0#6 Frame.zero [poll .low])
      (fun t => (t.phase, t.cnt, t.last, t.bitcnt, t.buf.humInt)) = some (5#7, 0#8, .low, 1#6, 0x00#8) ∧
    after (polling 4#7 17#8 .high 0#6 Frame.zero [poll .low])
      (fun t => (t.phase, t.cnt, t.last, t.bitcnt, t.buf.humInt)) = some (5#7, 0#8, .low, 1#6, 0x01#8) ∧
    (polling 4#7 17#8 .high 0#6 Frame.zero [poll .low]).emitted = [⟨.high, 17#8, false⟩] := by decide

/-- V15, V16, V17. -/
theorem test_poll_counts :
    after (polling 4#7 16#8 .high 0#6 Frame.zero [poll .high]) (fun t => (t.phase, t.cnt)) = some (4#7, 17#8) ∧
    after (polling 4#7 16#8 .high 0#6 Frame.zero [{ quiet with lineIn := .low }]) (fun t => (t.phase, t.cnt)) =
      some (4#7, 16#8) ∧
    after (polling 7#7 254#8 .low 2#6 Frame.zero [poll .high]) (fun t => (t.phase, t.cnt, t.last, t.bitcnt)) =
      some (8#7, 0#8, .high, 2#6) := by decide

/-- V18. -/
theorem test_poll_saturates :
    check (polling 7#7 254#8 .low 2#6 Frame.zero [poll .low])
      (fun t => t.cnt = 255#8 ∧ t.timeout = true ∧ t.phase = 7#7 ∧ t.fsm = .failed ∧ t.rspValid = true ∧
        t.rspCode = 4#4 ∧ t.rspData = 0#40) = true ∧
    (polling 7#7 254#8 .low 2#6 Frame.zero [poll .low]).emitted = [⟨.low, 255#8, true⟩] := by decide

/-- V19: the ninth bit goes to byte 1. -/
theorem test_poll_ninth_bit :
    after (polling 20#7 27#8 .high 8#6 ⟨0x23#8, 0#8, 0#8, 0#8, 0#8⟩ [poll .low])
      (fun t => (t.bitcnt, t.buf.humFrac, t.buf.humInt, t.phase)) = some (9#6, 0x01#8, 0x23#8, 21#7) := by decide

/-- V19a, V19b: the two ways a complete pass ends. -/
theorem test_pass_ends_valid :
    check (polling 84#7 27#8 .high 40#6 frame1 [poll .low])
      (fun t => t.phase = 85#7 ∧ t.cnt = 0#8 ∧ t.last = .low ∧ t.buf = frame1 ∧ t.bitcnt = 40#6 ∧ t.cache = frame1 ∧
        t.cacheValid = true ∧ t.fsm = .frameReady ∧ t.rspCode = 1#4 ∧ t.rspData = 0x23001A003D#40) = true ∧
    check (polling 84#7 254#8 .high 40#6 frame1 [poll .high])
      (fun t => t.phase = 84#7 ∧ t.cnt = 255#8 ∧ t.timeout = true ∧ t.cache = frame1 ∧ t.cacheValid = true ∧
        t.fsm = .frameReady ∧ t.rspCode = 1#4 ∧ t.rspData = 0x23001A003D#40) = true := by decide

/-- V73, V74. -/
theorem test_busy_ignores_commands :
    after (ready [cmd 0x0500#16]) (fun t => (t.fsm, t.rspValid)) = some (.idle, false) ∧
    after (failed [cmd 0x0200#16]) (fun t => (t.fsm, t.rspValid)) = some (.idle, false) ∧
    after (startLow 9#32 [cmd 0x0500#16]) (fun t => (t.fsm, t.dly, t.rspValid)) = some (.startLow, 9#32, false) := by
  decide

/-- V76, V77. -/
theorem test_reset :
    check { startLow 1234#32 [resetCycle] with pull := pullUp, cacheValid := true }
      (fun t => t.fsm = .closed ∧ t.lineOe = false ∧ t.lineOut = .high ∧ t.pull = 0#2 ∧ t.cacheValid = false ∧
        t.timeout = false ∧ t.rspValid = false ∧ t.paInit = false ∧ t.paShutdown = false) = true ∧
    check (idleA [resetCycle]) (fun t => t.fsm = .closed ∧ t.rspValid = false) = true := by decide

/-! ### The pure functions -/

/-- B1, B2. -/
theorem test_slot_and_threshold :
    [0#7, 1#7, 2#7, 3#7, 4#7, 5#7, 6#7, 83#7, 84#7].map isSlot =
      [false, false, false, false, true, false, true, false, true] ∧
    [0#8, 9#8, 16#8, 17#8, 27#8, 254#8].map bitOf = [false, false, false, true, true, true] := by decide

/-- B3, B4, B5. -/
theorem test_storeBit :
    ([false, false, true, false, false, false, true, true].foldl Assembly.storeBit Assembly.start) =
      ⟨⟨0x23#8, 0#8, 0#8, 0#8, 0#8⟩, 8#6⟩ ∧
    (Assembly.storeBit ⟨⟨0#8, 0#8, 0#8, 0#8, 0x1E#8⟩, 39#6⟩ true) = ⟨⟨0#8, 0#8, 0#8, 0#8, 0x3D#8⟩, 40#6⟩ ∧
    (Assembly.decodePhase ⟨frame1, 40#6⟩ 84#7 27#8) = ⟨frame1, 40#6⟩ := by decide

set_option maxRecDepth 20000 in
/-- B6, B7: the bit counts of 4, 5, 6, 7, 83 and 84 unsaturated Transitions. -/
theorem test_decodeTransitions_counts :
    [4, 5, 6, 7, 83, 84].map (fun m => (decodeTransitions (List.replicate m ⟨.high, 9#8, false⟩)).bitcnt) =
      [0#6, 1#6, 1#6, 2#6, 40#6, 40#6] := by decide

/-- V33 to V40a. -/
theorem test_validate :
    validate frame1 = true ∧ validate ⟨10#8, 0#8, 5#8, 133#8, 15#8⟩ = false ∧
    validate ⟨10#8, 0#8, 5#8, 133#8, 148#8⟩ = true ∧ validate ⟨200#8, 100#8, 0#8, 0#8, 44#8⟩ = true ∧
    validate ⟨200#8, 100#8, 0#8, 0#8, 45#8⟩ = false ∧ validate ⟨255#8, 255#8, 255#8, 255#8, 252#8⟩ = true ∧
    validate ⟨255#8, 1#8, 0#8, 0#8, 0#8⟩ = true ∧ validate ⟨36#8, 0#8, 25#8, 0#8, 61#8⟩ = true ∧
    validate ⟨35#8, 0#8, 26#8, 1#8, 61#8⟩ = false := by decide

/-- V41 to V44. -/
theorem test_classify :
    classify 40#6 frame1 true = .valid ∧ classify 40#6 frame1 false = .valid ∧
    classify 40#6 ⟨35#8, 0#8, 26#8, 0#8, 60#8⟩ true = .checksumMismatch ∧
    classify 39#6 frame1 true = .samplingTimeout ∧ classify 39#6 frame1 false = .incomplete := by decide

/-- V46, V48, V49, V52, V54, V56, V57, V58a, V59. -/
theorem test_conversions :
    tempA 5#8 0x85#8 = -55 ∧ tempA 0#8 0x80#8 = -10 ∧ tempA 0#8 0x8F#8 = 5 ∧ tempA 25#8 0x7A#8 = 260 ∧
    humA 255#8 255#8 = 2805 ∧ tempB 0x80#8 0x65#8 = -101 ∧ tempB 0x80#8 0x00#8 = 0 ∧
    tempB 0xFF#8 0xFF#8 = -32767 ∧ humB 0x02#8 0x1A#8 = 538 := by decide

/-- V46, V60a: response data of a negative result, and of a frame read as the wrong variant. -/
theorem test_response_data :
    tempData .a ⟨10#8, 0#8, 5#8, 0x85#8, 148#8⟩ = 0x000000FFC9#40 ∧ tempData .b frame1 = 0x0000001A00#40 ∧
    humData .b frame1 = 0x0000002300#40 := by decide

/-! ### Whole passes -/

/-- Alternating samples, the first Low. -/
def alternating (n : Nat) : List Level := (List.range n).map fun k => if k % 2 = 0 then .low else .high

set_option maxRecDepth 20000 in
/-- V23: the line changes at every poll. -/
theorem test_alternating_line :
    (samplePass (alternating 85)).map (fun r => (r.trs.length, r.bitcnt, r.timeout, r.polls)) =
      some (85, 40#6, false, 85) ∧
    (samplePass (alternating 85)).map (fun r => (r.buf, r.outcome)) = some (Frame.zero, .valid) := by decide

set_option maxRecDepth 20000 in
/-- V24d: an initial High of 255 samples saturates. -/
theorem test_high_255 :
    samplePass (List.replicate 255 .high) = some ⟨[⟨.high, 255#8, true⟩], Frame.zero, 0#6, true, 255⟩ := by decide

/-! ### Witnesses: for each statement with hypotheses, states and operands that meet them all -/

/-- A step of a concrete state has a next state. -/
def Steps (s : State) : Prop := ∃ t, step s = .next t

theorem witness_DecodeEncodeRoundTrip :
    Instr.WellFormed (.cmdOpen 0) ∧ Instr.WellFormed (.cmdOpen 255) ∧ Instr.WellFormed .cmdRead := by decide

theorem witness_DecodedWordReencodes :
    decode 0x01FF#16 = .ok (.cmdOpen 255) ∧ decode 0x0200#16 = .ok .cmdRead ∧ decode 0x0500#16 = .ok .cmdClose := by
  decide

theorem witness_IllegalWordsAnswered :
    ∀ s ∈ [closed [cmd 0x0600#16], idleA [cmd 0x0600#16]],
      s.input.rst = false ∧ s.input.cmdValid = true ∧ (s.fsm = .closed ∨ s.fsm = .idle) ∧
      decode s.input.cmd = .error (.unknownOpcode 6#8) := by decide

theorem witness_StepRunsAcceptedCommand :
    ∀ s ∈ [closed [cmd 0x0300#16], idleA [cmd 0x0300#16]],
      s.input.rst = false ∧ s.input.cmdValid = true ∧ (s.fsm = .closed ∨ s.fsm = .idle) ∧
      decode s.input.cmd = .ok .cmdTemp := by decide

theorem witness_FetchedWordRuns :
    decodeTableWord 16 0x0116 = some (.cmdOpen 22) ∧ decodeTableWord 16 0x0200 = some .cmdRead ∧
    State.reset.fsm = .closed ∧ (idleA []).fsm = .idle := by decide

theorem witness_PassReadsOnlyItsInputs :
    (startLow 1#32 []).fsm = .startLow ∧ us.rst = false ∧ { us with pollEn := true }.rst = false ∧
    us.usEn = { us with pollEn := true }.usEn ∧
    (polling 0#7 0#8 .high 0#6 Frame.zero []).fsm = .poll ∧ (poll .low).rst = false ∧
    (poll .low).pollEn = { poll .low with usEn := true }.pollEn ∧
    (poll .low).lineIn = { poll .low with usEn := true }.lineIn ∧
    (startLow 1#32 [quiet]).input.rst = false ∧ (startLow 1#32 [quiet]).input.usEn = false ∧
    (polling 0#7 0#8 .high 0#6 Frame.zero [us]).input.pollEn = false := by decide

theorem witness_ResetStep : (startLow 1#32 [resetCycle]).input.rst = true := by decide

/-- Each of the seven sequencer states, at the bounds the invariant allows. -/
theorem witness_Inv_closed : Inv (closed [cmd 0x010B#16]) := by constructor <;> decide
theorem witness_Inv_idle : Inv (idleA [cmd 0x0200#16]) := by constructor <;> decide
theorem witness_Inv_startLow : Inv (startLow 20000#32 [us]) := by constructor <;> decide
theorem witness_Inv_startLow_last : Inv (startLow 1#32 [us]) := by constructor <;> decide
theorem witness_Inv_releaseHigh : Inv (releaseHigh 50#32 [us]) := by constructor <;> decide
theorem witness_Inv_releaseHigh_last : Inv (releaseHigh 1#32 [us]) := by constructor <;> decide
theorem witness_Inv_ready : Inv (ready [quiet]) := by constructor <;> decide
theorem witness_Inv_failed : Inv (failed [quiet]) := by constructor <;> decide

/-- The end of phase 84 by a changed level, and its saturation. -/
theorem witness_Inv_poll_84 : Inv (polling 84#7 254#8 .high 40#6 frame1 [poll .low]) := by constructor <;> decide
theorem witness_Inv_poll_84_same : Inv (polling 84#7 254#8 .high 40#6 frame1 [poll .high]) := by
  constructor <;> decide

/-- The saturation of phase 83, complete, and of phase 82, one bit short. -/
theorem witness_Inv_poll_83 : Inv (polling 83#7 254#8 .low 40#6 frame1 [poll .low]) := by constructor <;> decide
theorem witness_Inv_poll_82 : Inv (polling 82#7 254#8 .high 39#6 frame1 [poll .high]) := by constructor <;> decide

/-- The first and the last poll of phase 0 that does not saturate. -/
theorem witness_Inv_poll_0 : Inv (polling 0#7 0#8 .high 0#6 Frame.zero [poll .high]) := by constructor <;> decide
theorem witness_Inv_poll_0_last : Inv (polling 0#7 253#8 .high 0#6 Frame.zero [poll .high]) := by
  constructor <;> decide

theorem witness_Inv_reset_cycle : Inv (idleA [resetCycle]) := by constructor <;> decide

/-- Each of the states above meets the invariant and has a next state: one for every row of R211. -/
theorem witness_ControlTransfer_and_StepKeepsInvariant :
    (Inv (closed [cmd 0x010B#16]) ∧ Steps (closed [cmd 0x010B#16])) ∧
    (Inv (idleA [cmd 0x0200#16]) ∧ Steps (idleA [cmd 0x0200#16])) ∧
    (Inv (startLow 1#32 [us]) ∧ Steps (startLow 1#32 [us])) ∧
    (Inv (releaseHigh 1#32 [us]) ∧ Steps (releaseHigh 1#32 [us])) ∧
    (Inv (polling 84#7 254#8 .high 40#6 frame1 [poll .low]) ∧
      Steps (polling 84#7 254#8 .high 40#6 frame1 [poll .low])) ∧
    (Inv (polling 84#7 254#8 .high 40#6 frame1 [poll .high]) ∧
      Steps (polling 84#7 254#8 .high 40#6 frame1 [poll .high])) ∧
    (Inv (ready [quiet]) ∧ Steps (ready [quiet])) ∧ (Inv (failed [quiet]) ∧ Steps (failed [quiet])) ∧
    (Inv (idleA [resetCycle]) ∧ Steps (idleA [resetCycle])) :=
  ⟨⟨witness_Inv_closed, ⟨_, rfl⟩⟩, ⟨witness_Inv_idle, ⟨_, rfl⟩⟩, ⟨witness_Inv_startLow_last, ⟨_, rfl⟩⟩,
    ⟨witness_Inv_releaseHigh_last, ⟨_, rfl⟩⟩, ⟨witness_Inv_poll_84, ⟨_, rfl⟩⟩, ⟨witness_Inv_poll_84_same, ⟨_, rfl⟩⟩,
    ⟨witness_Inv_ready, ⟨_, rfl⟩⟩, ⟨witness_Inv_failed, ⟨_, rfl⟩⟩, ⟨witness_Inv_reset_cycle, ⟨_, rfl⟩⟩⟩

/-- For OneResponsePerCommand, ResponseTiming, RequestPulses, VariantImmutableWhileOpen and CacheHoldsLastValidFrame: a step
without reset; the variant does change in the first. -/
theorem witness_steps_without_reset :
    (closed [cmd 0x0116#16]).input.rst = false ∧ Steps (closed [cmd 0x0116#16]) ∧
    after (closed [cmd 0x0116#16]) (fun t => t.variant) = some .b ∧
    (idleA [cmd 0x0500#16]).input.rst = false ∧ Steps (idleA [cmd 0x0500#16]) ∧
    (idleA []).fsm = .idle :=
  ⟨rfl, ⟨_, rfl⟩, by decide, rfl, ⟨_, rfl⟩, rfl⟩

theorem witness_OutputPorts :
    (idleA []).lineOe = false ∧ (startLow 1#32 []).lineOe = true ∧ (ready []).rspValid = true := by decide

theorem witness_OpenInEveryState :
    (idleA []).fsm ≠ .closed ∧ (closed []).fsm = .closed ∧ ¬(7 = 11 ∨ 7 = 22) ∧
    (closed [cmd 0x010B#16]).input.initOk = true ∧
    (closed [{ cmd 0x010B#16 with initOk := false }]).input.initOk = false := by decide

theorem witness_ReadInEveryState : (idleA []).fsm = .idle ∧ (closed []).fsm = .closed := by decide

theorem witness_TempInEveryState_and_HumInEveryState :
    (closed []).fsm = .closed ∧ (idleEmpty []).fsm ≠ .closed ∧ (idleEmpty []).cacheValid = false ∧
    (idleA []).fsm ≠ .closed ∧ (idleA []).cacheValid = true := by decide

theorem witness_CloseInEveryState : (idleA []).fsm = .idle ∧ (closed []).fsm ≠ .idle := by decide

theorem witness_CloseIsIdempotent :
    (idleA []).fsm = .idle ∧
    (∀ i ∈ [cmd 0x0500#16, cmd 0x0500#16], i.rst = false ∧ i.cmdValid = true ∧ i.cmd = 0x0500#16) ∧
    [cmd 0x0500#16, cmd 0x0500#16] ≠ [] ∧ ∃ t, exec .cmdClose (idleA []) = .next t :=
  ⟨rfl, by decide, by decide, ⟨_, rfl⟩⟩

theorem witness_AccessorsArePure :
    (idleA []).fsm = .idle ∧
    (∀ i ∈ [cmd 0x0300#16, quiet, cmd 0x0400#16],
      i.rst = false ∧ (i.cmdValid = true → i.cmd = 0x0300#16 ∨ i.cmd = 0x0400#16)) ∧
    (∃ t, exec .cmdTemp (idleA []) = .next t ∧ t.rspCode ≠ 9#4) ∧
    (∃ t, exec .cmdHum (idleA []) = .next t ∧ t.rspCode ≠ 9#4) ∧
    (polling 0#7 0#8 .high 0#6 Frame.zero [poll .low]).fsm = .poll ∧
    (polling 0#7 0#8 .high 0#6 Frame.zero [poll .low]).input.rst = false ∧
    Steps (polling 0#7 0#8 .high 0#6 Frame.zero [poll .low]) :=
  ⟨rfl, by decide, ⟨_, rfl, by decide⟩, ⟨_, rfl, by decide⟩, rfl, rfl, ⟨_, rfl⟩⟩

theorem witness_CommandFrames :
    (∃ t, exec (.cmdOpen 11) (closed [cmd 0x010B#16]) = .next t) ∧ (∃ t, exec .cmdRead (idleA []) = .next t) ∧
    (∃ t, exec .cmdTemp (idleA []) = .next t) ∧ (∃ t, exec .cmdHum (idleA []) = .next t) ∧
    (∃ t, exec .cmdClose (idleA []) = .next t) :=
  ⟨⟨_, rfl⟩, ⟨_, rfl⟩, ⟨_, rfl⟩, ⟨_, rfl⟩, ⟨_, rfl⟩⟩

/-- The single steps, with the count above 1 and at 1. -/
theorem witness_HandshakeWaveform_steps :
    (∀ s ∈ [startLow 2#32 [us], startLow 1#32 [us]],
      s.fsm = .startLow ∧ s.input.rst = false ∧ s.input.usEn = true) ∧
    (∀ s ∈ [releaseHigh 2#32 [us], releaseHigh 1#32 [us]],
      s.fsm = .releaseHigh ∧ s.input.rst = false ∧ s.input.usEn = true) ∧
    1 < (startLow 2#32 []).dly.toNat ∧ ¬ 1 < (startLow 1#32 []).dly.toNat := by decide

/-- `n` cycles with a pulse each: the counts 19999, 20000, 20049 and 20050 are the bounds of the three ranges. -/
theorem count_us (n : Nat) : (List.replicate n us).countP (fun i => i.usEn) = n := by
  simp [List.countP_replicate, us]

theorem last_us {n : Nat} (h : n ≠ 0) : ((List.replicate n us).getLast?.map fun i => i.usEn) = some true := by
  simp [List.getLast?_replicate, h, us]

theorem count_poll (n : Nat) : (List.replicate n (poll .high)).countP (fun i => i.pollEn) = n := by
  simp [List.countP_replicate, poll]

theorem last_poll {n : Nat} (h : n ≠ 0) :
    ((List.replicate n (poll .high)).getLast?.map fun i => i.pollEn) = some true := by
  simp [List.getLast?_replicate, h, poll]

theorem witness_HandshakeWaveform :
    (startLow 20000#32 []).fsm = .startLow ∧ (startLow 20000#32 []).dly = 20000#32 ∧
    (startLow 20000#32 []).lineOe = true ∧ (startLow 20000#32 []).lineOut = .low ∧
    (∀ n, ∀ i ∈ List.replicate n us, i.rst = false) ∧
    (List.replicate 19999 us).countP (fun i => i.usEn) = 19999 ∧
    (List.replicate 20000 us).countP (fun i => i.usEn) = 20000 ∧
    (List.replicate 20049 us).countP (fun i => i.usEn) = 20049 ∧
    (List.replicate 20050 us).countP (fun i => i.usEn) = 20050 ∧
    ((List.replicate 20050 us).getLast?.map fun i => i.usEn) = some true := by
  refine ⟨rfl, rfl, rfl, rfl, ?_, count_us _, count_us _, count_us _, count_us _,
    last_us (by decide)⟩
  intro n i hi
  rw [(List.mem_replicate.1 hi).2]
  rfl

theorem witness_PollUnchangedLevel :
    (∀ s ∈ [polling 4#7 253#8 .high 0#6 Frame.zero [poll .high], polling 4#7 254#8 .high 0#6 Frame.zero [poll .high]],
      s.fsm = .poll ∧ s.input.rst = false ∧ s.input.pollEn = true ∧ s.input.lineIn = s.last) ∧
    (polling 4#7 253#8 .high 0#6 Frame.zero []).cnt.toNat < 254 ∧
    ¬(polling 4#7 254#8 .high 0#6 Frame.zero []).cnt.toNat < 254 ∧
    (∀ i ∈ [poll .high, poll .high], i.rst = false ∧ i.pollEn = true ∧ i.lineIn = .high) ∧
    (polling 4#7 252#8 .high 0#6 Frame.zero []).cnt.toNat + [poll .high, poll .high].length ≤ 254 := by decide

theorem witness_PollChangedLevel :
    (∀ s ∈ [polling 83#7 19#8 .low 40#6 frame1 [poll .high], polling 84#7 27#8 .high 40#6 frame1 [poll .low]],
      s.fsm = .poll ∧ s.input.rst = false ∧ s.input.pollEn = true ∧ s.input.lineIn ≠ s.last) ∧
    (polling 83#7 19#8 .low 40#6 frame1 []).phase.toNat + 1 ≠ 85 ∧
    (polling 84#7 27#8 .high 40#6 frame1 []).phase.toNat + 1 = 85 := by decide

theorem witness_PassStepFrames :
    (startLow 1#32 [us]).fsm.handshake = true ∧ Steps (startLow 1#32 [us]) ∧
    (polling 4#7 17#8 .high 0#6 Frame.zero [poll .low]).fsm = .poll ∧
    after (polling 4#7 17#8 .high 0#6 Frame.zero [poll .low]) (fun t => t.fsm) = some .poll ∧
    (ready [quiet]).fsm = .frameReady ∧ (failed [quiet]).fsm = .failed ∧ Steps (failed [quiet]) :=
  ⟨rfl, ⟨_, rfl⟩, rfl, by decide, rfl, rfl, ⟨_, rfl⟩⟩

theorem witness_HandshakePinCalls :
    (idleA []).fsm = .idle ∧ (cmd 0x0200#16).rst = false ∧ (cmd 0x0200#16).cmdValid = true ∧
    (cmd 0x0200#16).cmd = 0x0200#16 ∧ (∀ i ∈ List.replicate 20050 us, i.rst = false) ∧
    (List.replicate 20050 us).countP (fun i => i.usEn) = 20050 ∧
    ((List.replicate 20050 us).getLast?.map fun i => i.usEn) = some true :=
  ⟨rfl, rfl, rfl, rfl, witness_HandshakeWaveform.2.2.2.2.1 _, count_us _, last_us (by decide)⟩

/-- A slot with a bit to store at both ends of the frame, an odd phase, a phase below 4, and a full frame. -/
theorem witness_DecodePhase :
    ((4 ≤ (4#7).toNat ∧ (4#7).toNat % 2 = 0) ∧ (0#6).toNat < 40) ∧
    ((4 ≤ (82#7).toNat ∧ (82#7).toNat % 2 = 0) ∧ (39#6).toNat < 40) ∧
    ¬((4 ≤ (5#7).toNat ∧ (5#7).toNat % 2 = 0) ∧ (0#6).toNat < 40) ∧
    ¬((4 ≤ (2#7).toNat ∧ (2#7).toNat % 2 = 0) ∧ (0#6).toNat < 40) ∧
    ¬((4 ≤ (84#7).toNat ∧ (84#7).toNat % 2 = 0) ∧ (40#6).toNat < 40) := by decide

theorem witness_BitsArriveMsbFirst : (List.replicate 40 true).length = 40 := by decide

/-- The counts of the all-zero frame, 83 phases long and 85. -/
theorem witness_TransitionRoundTrip :
    ∀ n ∈ [83, 85], ∀ trs, trs = List.replicate n (⟨.high, 16#8, false⟩ : Transition) →
      83 ≤ trs.length ∧ trs.length ≤ 85 ∧ (∀ k < 83, ∃ t, trs[k]? = some t ∧ t.sat = false) ∧
      (∀ j < 40, ∃ t, trs[4 + 2 * j]? = some t ∧ (16 < t.count.toNat ↔ Frame.zero.bit j = true)) := by
  intro n hn trs rfl
  have h1 : 83 ≤ n ∧ n ≤ 85 := by
    simp only [List.mem_cons, List.not_mem_nil, or_false] at hn
    omega
  refine ⟨by simpa using h1.1, by simpa using h1.2, fun k hk => ⟨⟨.high, 16#8, false⟩, ?_, rfl⟩,
    fun j hj => ⟨⟨.high, 16#8, false⟩, ?_, ?_⟩⟩
  · exact List.getElem?_replicate_of_lt (by omega)
  · exact List.getElem?_replicate_of_lt (by omega)
  · revert j
    decide

theorem witness_WaveformRoundTrip : 256 ≤ 256 := by decide

/-- The pass of a line that stays High, saturated in phase 0. -/
theorem witness_saturated_pass :
    samplePass (List.replicate 255 .high) = some ⟨[⟨.high, 255#8, true⟩], Frame.zero, 0#6, true, 255⟩ := test_high_255

/-- For StreamedDecodingAgrees, PassBounds and BitCountOfAPass: a pass that ends normally, a saturated one (above), and lists
long enough for every pass and for the two silent lines. -/
theorem witness_passes :
    ((samplePass (alternating 85)).map fun r => r.timeout) = some false ∧
    21675 ≤ (List.replicate 21675 Level.high).length ∧ 255 ≤ 255 ∧ 256 ≤ 256 := by
  refine ⟨?_, List.length_replicate.ge, by decide, by decide⟩
  have h := test_alternating_line.1
  cases hp : samplePass (alternating 85) with
  | none => simp [hp] at h
  | some r => simp_all

/-- What SaturationOutcome asks of a state. -/
def Saturates (s : State) : Prop :=
  Inv s ∧ s.fsm = .poll ∧ s.input.rst = false ∧ s.input.pollEn = true ∧ s.input.lineIn = s.last ∧ s.cnt = 254#8 ∧ Steps s

/-- The three phases around the bound. -/
theorem witness_SaturationOutcome :
    Saturates (polling 82#7 254#8 .high 39#6 frame1 [poll .high]) ∧
    Saturates (polling 83#7 254#8 .low 40#6 frame1 [poll .low]) ∧
    Saturates (polling 84#7 254#8 .high 40#6 frame1 [poll .high]) :=
  ⟨⟨witness_Inv_poll_82, rfl, rfl, rfl, rfl, rfl, ⟨_, rfl⟩⟩, ⟨witness_Inv_poll_83, rfl, rfl, rfl, rfl, rfl, ⟨_, rfl⟩⟩,
    ⟨witness_Inv_poll_84_same, rfl, rfl, rfl, rfl, rfl, ⟨_, rfl⟩⟩⟩

/-- The polls of a line that stays High. -/
theorem samples_high (n : Nat) : pollSamples (List.replicate n (poll .high)) = List.replicate n .high := by
  simp [pollSamples, poll]

theorem witness_ReadIsOneBigStep :
    (idleA []).fsm = .idle ∧ (cmd 0x0200#16).rst = false ∧ (cmd 0x0200#16).cmdValid = true ∧
    (cmd 0x0200#16).cmd = 0x0200#16 ∧ (∀ i ∈ List.replicate 20050 us, i.rst = false) ∧
    (∀ i ∈ List.replicate 255 (poll .high), i.rst = false) ∧ quiet.rst = false ∧
    (List.replicate 20050 us).countP (fun i => i.usEn) = 20050 ∧
    ((List.replicate 20050 us).getLast?.map fun i => i.usEn) = some true ∧
    (∃ r, samplePass (pollSamples (List.replicate 255 (poll .high))) = some r ∧
      r.polls = (pollSamples (List.replicate 255 (poll .high))).length) ∧
    ((List.replicate 255 (poll .high)).getLast?.map fun i => i.pollEn) = some true := by
  refine ⟨rfl, rfl, rfl, rfl, witness_HandshakeWaveform.2.2.2.2.1 _, ?_, rfl, count_us _,
    last_us (by decide), ⟨⟨[⟨.high, 255#8, true⟩], Frame.zero, 0#6, true, 255⟩, ?_, ?_⟩, last_poll (by decide)⟩
  · intro i hi
    rw [(List.mem_replicate.1 hi).2]
    rfl
  · rw [samples_high]
    exact witness_saturated_pass
  · rw [samples_high, List.length_replicate]

theorem witness_EveryReadIsAnswered :
    (idleA []).fsm = .idle ∧ (cmd 0x0200#16).rst = false ∧ (cmd 0x0200#16).cmdValid = true ∧
    (cmd 0x0200#16).cmd = 0x0200#16 ∧ (∀ i ∈ List.replicate 20050 us, i.rst = false) ∧
    (∀ i ∈ List.replicate 21675 (poll .high), i.rst = false) ∧
    (List.replicate 20050 us).countP (fun i => i.usEn) = 20050 ∧
    ((List.replicate 20050 us).getLast?.map fun i => i.usEn) = some true ∧
    21675 ≤ (List.replicate 21675 (poll .high)).countP (fun i => i.pollEn) := by
  refine ⟨rfl, rfl, rfl, rfl, witness_HandshakeWaveform.2.2.2.2.1 _, ?_, count_us _,
    last_us (by decide), (count_poll _).ge⟩
  intro i hi
  rw [(List.mem_replicate.1 hi).2]
  rfl

theorem witness_SingleByteCorruptionDetected :
    ∀ i ∈ [0, 4], i < 5 ∧ 60#8 ≠ frame1.get i ∧ validate frame1 = true := by decide

theorem witness_Classification :
    validate frame1 = true ∧ validate ⟨35#8, 0#8, 26#8, 0#8, 60#8⟩ = false ∧ 39#6 ≠ 40#6 := by decide

theorem witness_PassEndAnswers :
    (polling 84#7 254#8 .high 40#6 frame1 [poll .high]).EndsPass ∧
    (polling 84#7 254#8 .high 40#6 frame1 [poll .high]).passOutcome = .valid ∧
    (polling 84#7 0#8 .high 40#6 frame1 [poll .low]).EndsPass ∧
    (polling 7#7 254#8 .low 2#6 Frame.zero [poll .low]).EndsPass ∧
    (polling 7#7 254#8 .low 2#6 Frame.zero [poll .low]).passOutcome ≠ .valid ∧
    (ready [quiet]).input.rst = false ∧ (failed [quiet]).input.rst = false := by decide

theorem witness_CacheHoldsLastValidFrame :
    (polling 84#7 254#8 .high 40#6 frame1 [poll .high]).input.rst = false ∧
    Steps (polling 84#7 254#8 .high 40#6 frame1 [poll .high]) ∧
    ¬((idleA [quiet]).EndsPass ∧ (idleA [quiet]).passOutcome = .valid) ∧ Steps (idleA [quiet]) :=
  ⟨rfl, ⟨_, rfl⟩, by decide, ⟨_, rfl⟩⟩

theorem witness_ConversionRanges : (127#8).toNat < 128 ∧ 128 ≤ (128#8).toNat := by decide

/-- Two Closed states that differ in every register a rule does not read there. -/
theorem witness_UnreadRegistersDoNotMatter :
    LiveEq (closed [cmd 0x010B#16])
      { closed [cmd 0x010B#16] with
        variant := .b, cache := frame1, buf := frame1, bitcnt := 40#6, phase := 84#7, cnt := 255#8, last := .high,
        timeout := true, dly := 1#32, rspCode := 3#4, rspData := 5#40 } ∧
    Steps (closed [cmd 0x010B#16]) := by
  refine ⟨?_, ⟨_, rfl⟩⟩
  constructor <;> decide

theorem witness_ReceiverIgnoresVariant :
    (polling 4#7 17#8 .high 0#6 Frame.zero [poll .low]).fsm ≠ .closed ∧
    (polling 4#7 17#8 .high 0#6 Frame.zero [poll .low]).fsm ≠ .idle ∧
    (polling 4#7 17#8 .high 0#6 Frame.zero [poll .low]).input.rst = false ∧
    Steps (polling 4#7 17#8 .high 0#6 Frame.zero [poll .low]) :=
  ⟨by decide, by decide, rfl, ⟨_, rfl⟩⟩

end Sys2Proof.Tests
end

section
/-! PROOFS of the family `00_scope`: the step is total (O7), and every READ is answered (O40). O40 follows a READ through the
handshake, where the `us_en` pulses still to come fall to 0, and through the polls, where the most polls still to come do. -/

namespace Sys2Proof.Machine

/-! ### The step, where its row of the state machine is known -/

theorem step_of_resting {s : State} (hr : s.input.rst = false) (hf : s.fsm.resting = true) : step s = commandStep s := by
  cases h : s.fsm <;> simp_all [step, Fsm.resting]

/-- R72, R210: an accepted word that decodes is run. -/
theorem step_of_decode_ok {s : State} {i : Instr} (hr : s.input.rst = false) (hf : s.fsm.resting = true)
    (hv : s.input.cmdValid = true) (hd : decode s.input.cmd = .ok i) : step s = exec i s := by
  simp [step_of_resting hr hf, commandStep, hv, hd]

theorem step_of_startLow {s : State} (hr : s.input.rst = false) (hf : s.fsm = .startLow) :
    step s = .next (startLowStep s) := by
  simp [step, hr, hf]

theorem step_of_releaseHigh {s : State} (hr : s.input.rst = false) (hf : s.fsm = .releaseHigh) :
    step s = .next (releaseHighStep s) := by
  simp [step, hr, hf]

theorem step_of_poll {s : State} (hr : s.input.rst = false) (hf : s.fsm = .poll) : step s = .next (pollStep s) := by
  simp [step, hr, hf]

/-- R195, R196: READ accepted in Idle starts a pass. -/
theorem step_of_read_idle {s : State} (hr : s.input.rst = false) (hf : s.fsm = .idle) (hv : s.input.cmdValid = true)
    (hc : s.input.cmd = 0x0200#16) : step s = .next s.nextCycle.startPass := by
  have hd : decode s.input.cmd = .ok .cmdRead := by
    rw [hc]
    decide
  rw [step_of_decode_ok hr (by rw [hf]; rfl) hv hd]
  exact ((execRead_cases s).resolve_left fun h => by simp [hf] at h).2

/-! ### Every step uses up one cycle of inputs -/

@[simp] theorem State.endPass_inputs (s t : State) : (s.endPass t).inputs = t.inputs := by rw [State.endPass_eq]
@[simp] theorem State.endPass_cycle (s t : State) : (s.endPass t).cycle = t.cycle := by rw [State.endPass_eq]

theorem startLowStep_uses_cycle (s : State) :
    (startLowStep s).inputs = s.inputs.tail ∧ (startLowStep s).cycle = s.cycle + 1 := by
  rcases startLowStep_cases s with ⟨_, h⟩ | ⟨_, _, h⟩ | ⟨_, _, h⟩ <;> simp [h]

theorem releaseHighStep_uses_cycle (s : State) :
    (releaseHighStep s).inputs = s.inputs.tail ∧ (releaseHighStep s).cycle = s.cycle + 1 := by
  rcases releaseHighStep_cases s with ⟨_, h⟩ | ⟨_, _, h⟩ | ⟨_, _, h⟩ <;> simp [h]

theorem pollStep_uses_cycle (s : State) :
    (pollStep s).inputs = s.inputs.tail ∧ (pollStep s).cycle = s.cycle + 1 := by
  rcases pollStep_cases s with ⟨_, h⟩ | ⟨_, _, _, h⟩ | ⟨_, _, _, h⟩ | ⟨_, _, _, h⟩ | ⟨_, _, _, h⟩ <;>
    simp [h, afterSaturation, afterPhase]

theorem commandStep_answers_next (s : State) :
    ∃ t, commandStep s = .next t ∧ t.inputs = s.inputs.tail ∧ t.cycle = s.cycle + 1 := by
  rcases commandStep_cases s with ⟨_, h⟩ | ⟨_, i, _, h⟩ | ⟨_, e, _, h⟩
  · exact ⟨_, h, rfl, rfl⟩
  · rw [h]
    exact exec_answers_next i s
  · exact ⟨_, h, rfl, rfl⟩

/-- Settles O7, by the rows of the state machine. -/
theorem stepAlwaysAnswersNext : Obligations.StepAlwaysAnswersNext := by
  intro s
  rcases step_cases s with ⟨_, h⟩ | ⟨_, _, h⟩ | ⟨_, _, h⟩ | ⟨_, _, h⟩ | ⟨_, _, h⟩ | ⟨_, _, h⟩
  · exact ⟨_, h, rfl, rfl⟩
  · rw [h]
    exact commandStep_answers_next s
  · exact ⟨_, h, startLowStep_uses_cycle s⟩
  · exact ⟨_, h, releaseHighStep_uses_cycle s⟩
  · exact ⟨_, h, pollStep_uses_cycle s⟩
  · exact ⟨_, h, rfl, rfl⟩

/-! ### The handshake (R104, R106) -/

/-- The `us_en` pulses that a state of the handshake still waits for. -/
def State.pulsesLeft (s : State) : Nat :=
  if s.fsm = .startLow then s.dly.toNat + Config.tReleaseUs else s.dly.toNat

/-- What the handshake keeps of R33: it waits for a pulse, and ReleaseHigh drives the line High. -/
structure State.Handshaking (s : State) : Prop where
  handshake : s.fsm.handshake = true
  dly_pos : 1 ≤ s.dly.toNat
  line_high : s.fsm = .releaseHigh → s.lineOut = .high

/-- `s` once the handshake has ended, `n` cycles later, before the inputs `r`: listening, with the line let go. -/
def State.listening (s : State) (n : Nat) (r : List Inputs) : State :=
  { s with
    fsm := .poll
    lineOe := false
    lineOut := .high
    pull := pullUp
    dly := 1#32
    rspValid := false
    paInit := false
    paShutdown := false
    inputs := r
    cycle := s.cycle + n }

theorem Inv.handshaking {s : State} (h : Inv s) (hf : s.fsm.handshake = true) : s.Handshaking :=
  ⟨hf, (h.handshake_dly hf).1, h.release_high⟩

theorem State.startPass_handshaking (s : State) : s.startPass.Handshaking where
  handshake := rfl
  dly_pos := by simp [Config.tStartUs]
  line_high := nofun

theorem State.startPass_pulsesLeft (s : State) : s.startPass.pulsesLeft = 20050 := rfl

theorem Fsm.handshake_iff (f : Fsm) : f.handshake = true ↔ f = .startLow ∨ f = .releaseHigh := by
  cases f <;> simp [Fsm.handshake]

/-- A handshake goes on from `s` with the state `t` after a cycle `i` that is followed by the inputs `r`: it waits for as
many pulses fewer as the cycle brought, towards the same end. -/
structure State.HandshakeGoesOn (s : State) (i : Inputs) (r : List Inputs) (t : State) : Prop where
  handshaking : t.Handshaking
  inputs : t.inputs = r
  pulsesLeft : t.pulsesLeft + i.usEn.toNat = s.pulsesLeft
  listening : ∀ n r', t.listening n r' = s.listening (n + 1) r'

section
variable {s : State} {i : Inputs} {r : List Inputs}

theorem State.Handshaking.nextCycle_goesOn (h : s.Handshaking) (hi : s.inputs = i :: r) (hu : i.usEn = false) :
    s.HandshakeGoesOn i r s.nextCycle where
  handshaking := ⟨h.handshake, h.dly_pos, h.line_high⟩
  inputs := by simp [hi]
  pulsesLeft := by rw [hu]; rfl
  listening n r' := by simp [State.listening, State.nextCycle, Nat.add_assoc, Nat.add_comm 1]

/-- A pulse that is not the last of its wait counts `dly` down (R104, R106). -/
theorem State.Handshaking.countDown_goesOn (h : s.Handshaking) (hi : s.inputs = i :: r) (hu : i.usEn = true)
    (hd : 1 < s.dly.toNat) : s.HandshakeGoesOn i r { s.nextCycle with dly := s.dly - 1#32 } := by
  have hsub : (s.dly - 1#32).toNat = s.dly.toNat - 1 := by bv_omega
  exact {
    handshaking := ⟨h.handshake, by simp only [hsub]; omega, h.line_high⟩
    inputs := by simp [hi]
    pulsesLeft := by
      simp only [State.pulsesLeft, hsub, hu, State.nextCycle_fsm, Bool.toNat_true]
      split <;> omega
    listening := fun n r' => by simp [State.listening, State.nextCycle, Nat.add_assoc, Nat.add_comm 1] }

/-- The last pulse of StartLow leaves the 50 of ReleaseHigh (R104). -/
theorem State.Handshaking.release_goesOn (h : s.Handshaking) (hi : s.inputs = i :: r) (hu : i.usEn = true)
    (hf : s.fsm = .startLow) (hd : s.dly.toNat ≤ 1) :
    s.HandshakeGoesOn i r { s.nextCycle with lineOut := .high, dly := 50#32, fsm := .releaseHigh } where
  handshaking := ⟨rfl, by simp, fun _ => rfl⟩
  inputs := by simp [hi]
  pulsesLeft := by
    have := h.dly_pos
    have hdly : s.dly.toNat = 1 := by omega
    simp [State.pulsesLeft, hf, hu, hdly, Config.tReleaseUs]
  listening n r' := by simp [State.listening, State.nextCycle, Nat.add_assoc, Nat.add_comm 1]

/-- The last pulse of ReleaseHigh ends the handshake (R106). -/
theorem State.Handshaking.listening_one (h : s.Handshaking) (hi : s.inputs = i :: r) (hf : s.fsm = .releaseHigh)
    (hd : s.dly.toNat ≤ 1) :
    { s.nextCycle with lineOe := false, pull := pullUp, fsm := .poll } = s.listening 1 r := by
  have hdly : s.dly = 1#32 := BitVec.eq_of_toNat_eq (Nat.le_antisymm hd h.dly_pos)
  simp [State.listening, State.nextCycle, h.line_high hf, hdly, hi]

/-- Everything a cycle without reset can do in the handshake: the last pulse ends it, any other cycle goes on. -/
theorem State.Handshaking.step_cases (h : s.Handshaking) (hi : s.inputs = i :: r) (hr : i.rst = false) :
    (i.usEn = true ∧ s.pulsesLeft = 1 ∧ step s = .next (s.listening 1 r)) ∨
    (∃ t, step s = .next t ∧ s.HandshakeGoesOn i r t) := by
  have hin : s.input = i := State.input_of_cons hi
  rcases (Fsm.handshake_iff _).1 h.handshake with hf | hf
  · rw [step_of_startLow (hin ▸ hr) hf]
    rcases startLowStep_cases s with ⟨hu, e⟩ | ⟨hu, hd, e⟩ | ⟨hu, hd, e⟩ <;> rw [e]
    · exact .inr ⟨_, rfl, h.nextCycle_goesOn hi (hin ▸ hu)⟩
    · exact .inr ⟨_, rfl, h.countDown_goesOn hi (hin ▸ hu) hd⟩
    · exact .inr ⟨_, rfl, h.release_goesOn hi (hin ▸ hu) hf hd⟩
  · rw [step_of_releaseHigh (hin ▸ hr) hf]
    rcases releaseHighStep_cases s with ⟨hu, e⟩ | ⟨hu, hd, e⟩ | ⟨hu, hd, e⟩ <;> rw [e]
    · exact .inr ⟨_, rfl, h.nextCycle_goesOn hi (hin ▸ hu)⟩
    · exact .inr ⟨_, rfl, h.countDown_goesOn hi (hin ▸ hu) hd⟩
    · refine .inl ⟨hin ▸ hu, ?_, congrArg _ (h.listening_one hi hf hd)⟩
      simpa [State.pulsesLeft, hf] using Nat.le_antisymm hd h.dly_pos

theorem State.Handshaking.pulsesLeft_pos (h : s.Handshaking) : 1 ≤ s.pulsesLeft := by
  have := h.dly_pos
  unfold State.pulsesLeft
  split <;> omega

end

theorem countP_cons_toNat {α : Type} (p : α → Bool) (a : α) (l : List α) :
    (a :: l).countP p = l.countP p + (p a).toNat := by
  rw [List.countP_cons]
  cases p a <;> rfl

theorem eq_nil_of_last_pulse_of_no_pulse {hs : List Inputs} (hl : ∀ i ∈ hs.getLast?, i.usEn = true)
    (hc : hs.countP (fun i => i.usEn) = 0) : hs = [] := by
  cases h : hs.getLast? with
  | none => exact List.getLast?_eq_none_iff.1 h
  | some i =>
    have : i.usEn ≠ true := List.countP_eq_zero.1 hc i (List.mem_of_getLast? h)
    exact absurd (hl i h) this

/-- R107: the pulses a handshake waits for, the last of them in the last cycle, take it to its end. -/
theorem State.Handshaking.run_listening {s : State} {hs r : List Inputs} (h : s.Handshaking) (hi : s.inputs = hs ++ r)
    (hr : ∀ i ∈ hs, i.rst = false) (hc : hs.countP (fun i => i.usEn) = s.pulsesLeft)
    (hl : ∀ i ∈ hs.getLast?, i.usEn = true) : run hs.length s = .next (s.listening hs.length r) := by
  induction hs generalizing s with
  | nil =>
    have := h.pulsesLeft_pos
    rw [List.countP_nil] at hc
    omega
  | cons i hs ih =>
    obtain ⟨hri, hrs⟩ := List.forall_mem_cons.1 hr
    have hl' : ∀ j ∈ hs.getLast?, j.usEn = true := fun j hj =>
      hl j (by rw [List.getLast?_cons, Option.mem_def.1 hj]; rfl)
    rw [countP_cons_toNat] at hc
    rcases h.step_cases hi hri with ⟨hu, hone, hstep⟩ | ⟨t, hstep, ht⟩
    · obtain rfl : hs = [] := eq_nil_of_last_pulse_of_no_pulse hl' (by rw [hu, Bool.toNat_true] at hc; omega)
      rw [List.length_singleton, run_succ_of_next hstep]
      rfl
    · have hleft := ht.pulsesLeft
      have hct : hs.countP (fun i => i.usEn) = t.pulsesLeft := by omega
      rw [List.length_cons, run_succ_of_next hstep, ih ht.handshaking ht.inputs hrs hct hl', ht.listening]

/-! ### The polls (R109 to R117) -/

/-- The clauses of R33 that bound a pass in Poll. -/
structure State.Polling (s : State) : Prop where
  fsm : s.fsm = .poll
  phase_le : s.phase.toNat ≤ 84
  cnt_le : s.cnt.toNat ≤ 254

/-- The most polls that a pass in Poll can still take: each phase to come ends with its 255th poll at the latest (R117). -/
def State.pollsLeft (s : State) : Nat := (84 - s.phase.toNat) * 255 + (255 - s.cnt.toNat)

/-- The pass has ended and its response is visible (R158). -/
def State.Answered (s : State) : Prop := (s.fsm = .frameReady ∨ s.fsm = .failed) ∧ s.rspValid = true

theorem Inv.polling {s : State} (h : Inv s) (hf : s.fsm = .poll) : s.Polling := ⟨hf, h.poll_phase hf, h.poll_cnt hf⟩

theorem State.Polling.pollsLeft_pos {s : State} (h : s.Polling) : 1 ≤ s.pollsLeft := by
  have := h.cnt_le
  unfold State.pollsLeft
  omega

theorem State.startPass_listening_polling (s : State) (n : Nat) (r : List Inputs) :
    (s.startPass.listening n r).Polling :=
  ⟨rfl, by simp [State.listening], by simp [State.listening]⟩

theorem State.startPass_listening_pollsLeft (s : State) (n : Nat) (r : List Inputs) :
    (s.startPass.listening n r).pollsLeft = 21675 := by
  simp [State.pollsLeft, State.listening]

theorem State.endPass_answered (s t : State) : (s.endPass t).Answered := by
  rcases State.endPass_cases s t with ⟨_, h⟩ | ⟨o, _, _, h⟩ <;> simp [h, State.Answered]

/-- A poll ends the pass or brings its end nearer; a cycle without one keeps the pass where it is. -/
theorem State.Polling.pollStep_progress {s : State} (h : s.Polling) :
    (pollStep s).Answered ∨
    ((pollStep s).Polling ∧ (pollStep s).pollsLeft + s.input.pollEn.toNat ≤ s.pollsLeft) := by
  obtain ⟨hf, hp, hc⟩ := h
  rcases pollStep_cases s with ⟨hen, e⟩ | ⟨hen, _, hlt, e⟩ | ⟨_, _, _, e⟩ | ⟨hen, _, hne, e⟩ | ⟨_, _, _, e⟩ <;> rw [e]
  · exact .inr ⟨⟨hf, hp, hc⟩, by simp [State.pollsLeft, hen]⟩
  · have hcnt : (s.cnt + 1#8).toNat = s.cnt.toNat + 1 := by bv_omega
    refine .inr ⟨⟨hf, hp, by simp only [hcnt]; omega⟩, ?_⟩
    simp only [State.pollsLeft, hcnt, hen, Bool.toNat_true]
    omega
  · exact .inl (State.endPass_answered _ _)
  · have hphase : (s.phase + 1#7).toNat = s.phase.toNat + 1 := by bv_omega
    refine .inr ⟨⟨hf, by simp only [afterPhase, hphase]; omega, by simp [afterPhase]⟩, ?_⟩
    simp only [State.pollsLeft, afterPhase, hphase, hen, Bool.toNat_true, BitVec.toNat_ofNat]
    omega
  · exact .inl (State.endPass_answered _ _)

/-- R117: as many polls as a pass can still take answer it, whatever the line does. -/
theorem State.Polling.run_answered {s : State} {ps r : List Inputs} (h : s.Polling) (hi : s.inputs = ps ++ r)
    (hr : ∀ i ∈ ps, i.rst = false) (hc : s.pollsLeft ≤ ps.countP (fun i => i.pollEn)) :
    ∃ n t, n ≤ ps.length ∧ run n s = .next t ∧ t.Answered := by
  induction ps generalizing s with
  | nil =>
    have := h.pollsLeft_pos
    rw [List.countP_nil] at hc
    omega
  | cons i ps ih =>
    obtain ⟨hri, hrs⟩ := List.forall_mem_cons.1 hr
    have hin : s.input = i := State.input_of_cons hi
    have hstep : step s = .next (pollStep s) := step_of_poll (hin ▸ hri) h.fsm
    rcases h.pollStep_progress with hans | ⟨hpoll, hleft⟩
    · exact ⟨1, _, by simp, run_succ_of_next hstep 0, hans⟩
    · have hinp : (pollStep s).inputs = ps ++ r := by rw [(pollStep_uses_cycle s).1, hi]; rfl
      have hct : (pollStep s).pollsLeft ≤ ps.countP (fun i => i.pollEn) := by
        rw [countP_cons_toNat] at hc
        rw [hin] at hleft
        omega
      obtain ⟨n, t, hn, hrun, hans⟩ := ih hpoll hinp hrs hct
      exact ⟨n + 1, t, by simpa using hn, by rw [run_succ_of_next hstep, hrun], hans⟩

/-- R107, R117: a pass that starts is answered within the pulses of its handshake and 21675 polls. -/
theorem State.startPass_run_answered {s : State} {hs ps r : List Inputs} (hi : s.inputs = hs ++ (ps ++ r))
    (hhr : ∀ i ∈ hs, i.rst = false) (hpr : ∀ i ∈ ps, i.rst = false) (hcount : hs.countP (fun i => i.usEn) = 20050)
    (hlast : ∀ i ∈ hs.getLast?, i.usEn = true) (hpolls : 21675 ≤ ps.countP (fun i => i.pollEn)) :
    ∃ n t, n ≤ hs.length + ps.length ∧ run n s.startPass = .next t ∧ t.Answered := by
  have hlisten := s.startPass_handshaking.run_listening hi hhr (hcount.trans s.startPass_pulsesLeft.symm) hlast
  obtain ⟨n, t, hn, hrun, hans⟩ := (s.startPass_listening_polling hs.length (ps ++ r)).run_answered rfl hpr
    ((s.startPass_listening_pollsLeft hs.length (ps ++ r)).trans_le hpolls)
  exact ⟨hs.length + n, t, by omega, by rw [run_add hlisten, hrun], hans⟩

/-- Settles O40: READ starts the pass, the pulses take it through the handshake, and the polls answer it. -/
theorem everyReadIsAnswered : Obligations.EveryReadIsAnswered := by
  intro s c hs ps r hf hcr hcv hcw hhr hpr hcount hlast hpolls
  have hlast' : ∀ i ∈ hs.getLast?, i.usEn = true := by
    intro i hi
    simpa [Option.mem_def.1 hi] using hlast
  have hread := step_of_read_idle (s := { s with inputs := c :: (hs ++ (ps ++ r)) }) hcr hf hcv hcw
  obtain ⟨n, t, hn, hrun, hans⟩ := State.startPass_run_answered
    (s := State.nextCycle { s with inputs := c :: (hs ++ (ps ++ r)) }) rfl hhr hpr hcount hlast' hpolls
  exact ⟨n + 1, t, by omega, by rw [run_succ_of_next hread, hrun], hans⟩

end Sys2Proof.Machine
end

section
/-! PROOFS of the family `10_state`: the invariant of R33 at reset and under every step (O48, O49), the registers that
nothing depends on (O50), the request pulses (O14), what commands and passes leave unchanged (O24, O28), the reset
values and the output ports (O10, O15). The invariant and the agreement of two states are each kept by every operation
on the state; a step is a few operations in a row. -/

namespace Sys2Proof.Machine

/-! ### Equations and small facts that the proofs below share -/

theorem exec_cmdTemp (s : State) : exec .cmdTemp s = execTemp s := rfl
theorem exec_cmdHum (s : State) : exec .cmdHum s = execHum s := rfl

theorem Fsm.resting_iff (f : Fsm) : f.resting = true ↔ f = .closed ∨ f = .idle := by
  cases f <;> simp [Fsm.resting]

/-- A resting state is none of the states of a READ. -/
theorem Fsm.not_reading_of_resting {f : Fsm} (hf : f.resting = true) :
    f.sampling = false ∧ f ≠ .frameReady ∧ f ≠ .failed := by
  rcases (Fsm.resting_iff f).1 hf with rfl | rfl <;> decide

theorem Fsm.sampling_iff (f : Fsm) : f.sampling = true ↔ f.handshake = true ∨ f = .poll := by
  cases f <;> simp [Fsm.sampling, Fsm.handshake]

theorem RspCode.bits_in_range {c : RspCode} (hc : c ≠ .incomplete) :
    c.bits.toNat ≤ 10 ∧ c.bits ≠ RspCode.incomplete.bits :=
  ⟨c.bits_le, fun hn => hc (RspCode.bits_injective hn)⟩

theorem frameComplete_iff (n : BitVec 6) : frameComplete n = true ↔ n.toNat = 40 := by
  simp [frameComplete, Config.frameBits]

/-- A changed sample is the other level. -/
theorem Level.eq_high_iff_of_ne {a b : Level} (h : a ≠ b) : a = .high ↔ b ≠ .high := by
  cases a <;> cases b <;> simp_all

/-! ### Everything a command can do -/

/-- An OPEN whose operand is one of the two variant codes (R73). -/
def IsKnownOpen (i : Instr) : Prop := i = .cmdOpen 11 ∨ i = .cmdOpen 22

theorem isKnownOpen_iff (arg : Nat) : IsKnownOpen (.cmdOpen arg) ↔ variantOfCode arg ≠ none := by
  rw [Ne, variantOfCode_eq_none_iff]
  simp only [IsKnownOpen, Instr.cmdOpen.injEq]
  omega

theorem IsKnownOpen.exists_arg {i : Instr} (h : IsKnownOpen i) : ∃ arg, i = .cmdOpen arg := by
  rcases h with h | h
  · exact ⟨11, h⟩
  · exact ⟨22, h⟩

/-- The state in which a successful OPEN leaves the block, before its response (R191). -/
def State.opened (s : State) (v : Variant) : State :=
  { s.nextCycle with paInit := true, variant := v, cacheValid := false, fsm := .idle }

/-- The state in which a CLOSE in Idle leaves the block, before its response (R199). -/
def State.closedFromIdle (s : State) : State :=
  { s.nextCycle with lineOe := false, pull := pullNone, paShutdown := true, fsm := .closed }

/-- Everything a command can do: answer and nothing else, ask for a bring-up that fails, create the
driver, start a pass, close. -/
inductive ExecCase (i : Instr) (s : State) : State → Prop where
  /-- A response alone, never Incomplete. -/
  | answer (c : RspCode) (d : RspData) (hc : c ≠ .incomplete) (hopen : ¬(s.fsm = .closed ∧ IsKnownOpen i))
      (hclose : ¬(s.fsm = .idle ∧ i = .cmdClose)) : ExecCase i s (s.nextCycle.respond c d)
  /-- R190: the platform refuses the bring-up. -/
  | initError (hf : s.fsm = .closed) (hi : IsKnownOpen i) :
      ExecCase i s ({ s.nextCycle with paInit := true }.raiseError .initError)
  /-- R191. -/
  | opened (v : Variant) (hf : s.fsm = .closed) (hi : IsKnownOpen i) : ExecCase i s ((s.opened v).respond .ok 0#40)
  /-- R196. -/
  | started (hf : s.fsm ≠ .closed) (hi : i = .cmdRead) : ExecCase i s s.nextCycle.startPass
  /-- R199. -/
  | closed (hf : s.fsm = .idle) (hi : i = .cmdClose) : ExecCase i s (s.closedFromIdle.respond .ok 0#40)

theorem exec_cases {i : Instr} {s t : State} (h : exec i s = .next t) : ExecCase i s t := by
  cases i with
  | cmdOpen arg =>
    have hclose : ¬(s.fsm = .idle ∧ Instr.cmdOpen arg = .cmdClose) := by simp
    rcases execOpen_cases arg s with ⟨hf, e⟩ | ⟨_, hv, e⟩ | ⟨hf, _, v, hv, e⟩ | ⟨hf, _, v, hv, e⟩ <;>
      cases e.symm.trans h
    · exact .answer _ _ nofun (fun hn => hf hn.1) hclose
    · exact .answer _ _ nofun (fun hn => (isKnownOpen_iff arg).1 hn.2 hv) hclose
    · exact .initError hf ((isKnownOpen_iff arg).2 (by simp [hv]))
    · exact .opened v hf ((isKnownOpen_iff arg).2 (by simp [hv]))
  | cmdRead =>
    rcases execRead_cases s with ⟨_, e⟩ | ⟨hf, e⟩ <;> cases e.symm.trans h
    · exact .answer _ _ nofun (by simp [IsKnownOpen]) (by simp)
    · exact .started hf rfl
  | cmdTemp =>
    rcases execTemp_cases s with ⟨_, e⟩ | ⟨_, _, e⟩ | ⟨_, _, e⟩ <;> cases e.symm.trans h <;>
      exact .answer _ _ nofun (by simp [IsKnownOpen]) (by simp)
  | cmdHum =>
    rcases execHum_cases s with ⟨_, e⟩ | ⟨_, _, e⟩ | ⟨_, _, e⟩ <;> cases e.symm.trans h <;>
      exact .answer _ _ nofun (by simp [IsKnownOpen]) (by simp)
  | cmdClose =>
    rcases execClose_cases s with ⟨hf, e⟩ | ⟨hf, e⟩ <;> cases e.symm.trans h
    · exact .closed hf rfl
    · exact .answer _ _ nofun (by simp [IsKnownOpen]) (fun hn => hf hn.1)

/-! ### The invariant outside a pass -/

/-- The clauses of R33 that neither `fsm` nor the response enters, with the line let go: what is left of the invariant
outside the handshake. -/
structure State.InvReleased (s : State) : Prop where
  bitcnt_le : s.bitcnt.toNat ≤ 40
  phase_le : s.phase.toNat ≤ 85
  line_released : s.lineOe = false
  line_high : s.lineOut = .high
  cache_checked : s.cacheValid = true → validate s.cache = true
  pull_range : s.pull = pullNone ∨ s.pull = pullUp

theorem Inv.released {s : State} (h : Inv s) (hf : s.fsm.handshake = false) : s.InvReleased :=
  { h with
    line_released := h.drive_iff.trans hf
    line_high := h.line_high fun hs => by simp [hs, Fsm.handshake] at hf }

/-- Outside a pass the invariant asks for the released line and for what R78 and R191 say of the sequencer state. -/
theorem State.InvReleased.inv {s : State} (h : s.InvReleased) (hf : s.fsm.sampling = false)
    (closed_pull : s.fsm = .closed → s.pull = pullNone)
    (frame_ready : s.fsm = .frameReady →
      s.rspValid = true ∧ s.rspCode = RspCode.valid.bits ∧ s.cacheValid = true ∧ s.rspData = s.cache.data)
    (failed_code : s.fsm = .failed →
      s.rspValid = true ∧ (s.rspCode = RspCode.checksumMismatch.bits ∨ s.rspCode = RspCode.samplingTimeout.bits))
    (code_range : s.rspValid = true → s.rspCode.toNat ≤ 10 ∧ s.rspCode ≠ RspCode.incomplete.bits) : Inv s := by
  have hs : s.fsm.sampling ≠ true := by simp [hf]
  have hh : s.fsm.handshake ≠ true := fun hn => hs ((Fsm.sampling_iff _).2 (.inl hn))
  have hpoll : s.fsm ≠ .poll := fun hn => hs ((Fsm.sampling_iff _).2 (.inr hn))
  have hstart : s.fsm ≠ .startLow := fun hn => hh ((Fsm.handshake_iff _).2 (.inl hn))
  have hrelease : s.fsm ≠ .releaseHigh := fun hn => hh ((Fsm.handshake_iff _).2 (.inr hn))
  exact { h with
    poll_phase := (absurd · hpoll)
    poll_cnt := (absurd · hpoll)
    poll_pull := (absurd · hpoll)
    poll_last := (absurd · hpoll)
    poll_bitcnt := (absurd · hpoll)
    drive_iff := h.line_released.trans (Bool.eq_false_iff.2 hh).symm
    handshake_dly := (absurd · hh)
    start_low := (absurd · hstart)
    release_high := (absurd · hrelease)
    release_dly := (absurd · hrelease)
    handshake_work := (absurd · hh)
    sampling_timeout := (absurd · hs)
    closed_pull := closed_pull
    line_high := fun _ => h.line_high
    sampling_silent := (absurd · hs)
    frame_ready := frame_ready
    failed_code := failed_code
    code_range := code_range }

theorem State.reset_invReleased : State.reset.InvReleased where
  bitcnt_le := by decide
  phase_le := by decide
  line_released := rfl
  line_high := rfl
  cache_checked := nofun
  pull_range := .inl rfl

/-- Settles O48: reset leaves the line released, no response and no valid cache. -/
theorem resetMeetsInvariant : Obligations.ResetMeetsInvariant :=
  State.reset_invReleased.inv rfl (fun _ => rfl) nofun nofun nofun

section
variable {s : State}

/-! ### The operations keep the invariant -/

theorem State.applyReset_inv (s : State) : Inv s.applyReset :=
  { resetMeetsInvariant with }

/-- The defaults of a cycle take a response away, so they are for states that show none of a pass (R210). -/
theorem Inv.nextCycle (h : Inv s) (hf : s.fsm.resting = true ∨ s.fsm.sampling = true) : Inv s.nextCycle :=
  { h with
    sampling_silent := fun _ => rfl
    frame_ready := fun e => by simp [State.nextCycle_fsm s ▸ e, Fsm.resting, Fsm.sampling] at hf
    failed_code := fun e => by simp [State.nextCycle_fsm s ▸ e, Fsm.resting, Fsm.sampling] at hf
    code_range := nofun }

/-- A response to a command, which is accepted in Closed or Idle (R72) and never answered Incomplete (R79). -/
theorem Inv.respond {c : RspCode} (h : Inv s) (hf : s.fsm.resting = true) (d : RspData) (hc : c ≠ .incomplete) :
    Inv (s.respond c d) := by
  obtain ⟨hsampling, hready, hfailed⟩ := Fsm.not_reading_of_resting hf
  exact { h with
    sampling_silent := (absurd · (Bool.eq_false_iff.1 hsampling))
    frame_ready := (absurd · hready)
    failed_code := (absurd · hfailed)
    code_range := fun _ => RspCode.bits_in_range hc }

theorem Inv.raiseError {e : RspCode} (h : Inv s) (hf : s.fsm.resting = true) (he : e ≠ .incomplete) :
    Inv (s.raiseError e) :=
  h.respond hf _ he

/-- The bring-up pulse is free of every clause. -/
theorem Inv.withPaInit (h : Inv s) (b : Bool) : Inv { s with paInit := b } :=
  { h with }

/-- Outside a pass, going to Idle with the response taken away keeps every clause (R198). -/
theorem Inv.returnStep (h : Inv s) (hf : s.fsm.sampling = false) : Inv (returnStep s) := by
  have hh : s.fsm.handshake = false :=
    Bool.eq_false_iff.2 fun hn => Bool.eq_false_iff.1 hf ((Fsm.sampling_iff _).2 (.inl hn))
  have hrel : (Machine.returnStep s).InvReleased := { h.released hh with }
  exact hrel.inv rfl nofun nofun nofun nofun

/-- A successful OPEN goes to Idle and clears the cache (R191). -/
theorem Inv.opened (h : Inv s) (hf : s.fsm = .closed) (v : Variant) : Inv (s.opened v) :=
  { h.returnStep (by rw [hf]; rfl) with
    cache_checked := nofun
    frame_ready := nofun }

/-- A CLOSE in Idle takes the pull away (R199). -/
theorem Inv.closedFromIdle (h : Inv s) (hf : s.fsm = .idle) : Inv s.closedFromIdle := by
  have hrel : s.closedFromIdle.InvReleased :=
    { h.released (by rw [hf]; rfl) with line_released := rfl, pull_range := .inl rfl }
  exact hrel.inv rfl (fun _ => rfl) nofun nofun nofun

/-- A READ in Idle starts the pass (R196). -/
theorem Inv.startPass (h : Inv s) (hv : s.rspValid = false) : Inv s.startPass :=
  { h with
    bitcnt_le := by simp
    phase_le := by simp
    poll_phase := nofun
    poll_cnt := nofun
    poll_pull := nofun
    poll_last := nofun
    poll_bitcnt := nofun
    drive_iff := rfl
    handshake_dly := fun _ => by simp [Config.tStartUs]
    start_low := fun _ => rfl
    release_high := nofun
    release_dly := nofun
    handshake_work := fun _ => ⟨rfl, rfl, rfl, rfl, rfl⟩
    sampling_timeout := fun _ => rfl
    closed_pull := nofun
    line_high := fun hn => absurd rfl hn
    sampling_silent := fun _ => hv
    frame_ready := nofun
    failed_code := nofun }

/-! ### The steps keep the invariant -/

theorem exec_keeps_inv {i : Instr} {t : State} (h : Inv s) (hf : s.fsm.resting = true) (he : exec i s = .next t) :
    Inv t := by
  have hnext : Inv s.nextCycle := h.nextCycle (.inl hf)
  cases exec_cases he with
  | answer c d hc => exact hnext.respond hf d hc
  | initError => exact (hnext.withPaInit true).raiseError hf nofun
  | opened v hclosed => exact (h.opened hclosed v).respond rfl _ nofun
  | started => exact hnext.startPass rfl
  | closed hidle => exact (h.closedFromIdle hidle).respond rfl _ nofun

/-- A handshake pulse that is not the last of its wait (R104, R106). -/
theorem Inv.countDown (h : Inv s) (hf : s.fsm.handshake = true) (hd : 1 < s.dly.toNat) :
    Inv { s.nextCycle with dly := s.dly - 1#32 } := by
  have hsub : (s.dly - 1#32).toNat = s.dly.toNat - 1 := by bv_omega
  have hnext : Inv s.nextCycle := h.nextCycle (.inr ((Fsm.sampling_iff _).2 (.inl hf)))
  obtain ⟨_, hle⟩ := h.handshake_dly hf
  exact { hnext with
    handshake_dly := fun _ => by simp only [hsub]; omega
    release_dly := fun hr => by
      have := h.release_dly hr
      simp only [hsub]
      omega }

theorem Inv.startLowStep (h : Inv s) (hf : s.fsm = .startLow) : Inv (startLowStep s) := by
  have hh : s.fsm.handshake = true := by rw [hf]; rfl
  have hsampling : s.fsm.sampling = true := by rw [hf]; rfl
  have hnext : Inv s.nextCycle := h.nextCycle (.inr hsampling)
  rcases startLowStep_cases s with ⟨_, e⟩ | ⟨_, hd, e⟩ | ⟨_, _, e⟩ <;> rw [e]
  · exact hnext
  · exact h.countDown hh hd
  · exact { hnext with
      poll_phase := nofun
      poll_cnt := nofun
      poll_pull := nofun
      poll_last := nofun
      poll_bitcnt := nofun
      drive_iff := h.drive_iff.trans hh
      handshake_dly := fun _ => by simp
      start_low := nofun
      release_high := fun _ => rfl
      release_dly := fun _ => by simp
      handshake_work := fun _ => h.handshake_work hh
      sampling_timeout := fun _ => h.sampling_timeout hsampling
      closed_pull := nofun
      line_high := fun _ => rfl
      sampling_silent := fun _ => rfl
      frame_ready := nofun
      failed_code := nofun }

theorem Inv.releaseHighStep (h : Inv s) (hf : s.fsm = .releaseHigh) : Inv (releaseHighStep s) := by
  have hh : s.fsm.handshake = true := by rw [hf]; rfl
  have hsampling : s.fsm.sampling = true := by rw [hf]; rfl
  have hnext : Inv s.nextCycle := h.nextCycle (.inr hsampling)
  rcases releaseHighStep_cases s with ⟨_, e⟩ | ⟨_, hd, e⟩ | ⟨_, _, e⟩ <;> rw [e]
  · exact hnext
  · exact h.countDown hh hd
  · obtain ⟨_, hbitcnt, hphase, hcnt, hlast⟩ := h.handshake_work hh
    exact { hnext with
      poll_phase := fun _ => by simp [hphase]
      poll_cnt := fun _ => by simp [hcnt]
      poll_pull := fun _ => rfl
      poll_last := fun _ => by simp [hphase, hlast]
      poll_bitcnt := fun _ => by simp [hphase, hbitcnt, slotsBelow]
      drive_iff := rfl
      handshake_dly := nofun
      start_low := nofun
      release_high := nofun
      release_dly := nofun
      handshake_work := nofun
      sampling_timeout := fun _ => h.sampling_timeout hsampling
      pull_range := .inr rfl
      closed_pull := nofun
      line_high := fun _ => h.release_high hf
      sampling_silent := fun _ => rfl
      frame_ready := nofun
      failed_code := nofun }

/-- The end of a pass (R158): a Valid outcome commits a frame that passes the checksum, and an error other than
Incomplete leaves the cache. -/
theorem State.InvReleased.endPass {u : State} (hu : u.InvReleased)
    (ho : classify s.bitcnt s.buf u.timeout ≠ .incomplete) : Inv (s.endPass u) := by
  rcases State.endPass_cases s u with ⟨hvalid, e⟩ | ⟨o, hclass, hne, e⟩ <;> rw [e]
  · obtain ⟨_, hcheck⟩ := (classify_valid_iff _ _ _).1 hvalid
    have hrel : State.InvReleased { u with
        cache := s.buf, cacheValid := true, rspValid := true, rspCode := RspCode.valid.bits, rspData := s.buf.data,
        fsm := .frameReady } :=
      { hu with cache_checked := fun _ => hcheck }
    exact hrel.inv rfl nofun (fun _ => ⟨rfl, rfl, rfl, rfl⟩) nofun (fun _ => RspCode.bits_in_range (by decide))
  · have hrel : State.InvReleased { u with
        rspValid := true, rspCode := o.code.bits, rspData := 0#40, fsm := .failed } := { hu with }
    have hcode : o = .checksumMismatch ∨ o = .samplingTimeout := by
      rw [hclass] at ho
      cases o <;> simp_all
    rcases hcode with rfl | rfl
    · exact hrel.inv rfl nofun nofun (fun _ => ⟨rfl, .inl rfl⟩) (fun _ => RspCode.bits_in_range (by decide))
    · exact hrel.inv rfl nofun nofun (fun _ => ⟨rfl, .inr rfl⟩) (fun _ => RspCode.bits_in_range (by decide))

/-- A poll that finds the level unchanged and does not saturate counts itself (R110). -/
theorem Inv.countPoll (h : Inv s) (hf : s.fsm = .poll) (hc : s.cnt.toNat < 254) :
    Inv { s.nextCycle with cnt := s.cnt + 1#8 } := by
  have hcnt : (s.cnt + 1#8).toNat = s.cnt.toNat + 1 := by bv_omega
  have hnext : Inv s.nextCycle := h.nextCycle (.inr (by rw [hf]; rfl))
  exact { hnext with
    poll_cnt := fun _ => by simp only [hcnt]; omega
    handshake_work := fun hn => by simp [hf, Fsm.handshake] at hn }

theorem Inv.bitcnt_afterPhase (h : Inv s) (hf : s.fsm = .poll) :
    (afterPhase s).bitcnt.toNat = min 40 (slotsBelow (s.phase.toNat + 1)) :=
  Assembly.decodePhase_bitcnt s.assembly s.phase s.cnt (h.poll_bitcnt hf)

/-- The end of a phase before the last one starts the next phase (R111). -/
theorem Inv.afterPhase (h : Inv s) (hf : s.fsm = .poll) (hl : s.input.lineIn ≠ s.last) (hp : s.phase.toNat ≠ 84) :
    Inv (afterPhase s) := by
  have hle := h.poll_phase hf
  have hphase : (Machine.afterPhase s).phase.toNat = s.phase.toNat + 1 := by
    simp only [Machine.afterPhase]
    bv_omega
  have hbits := h.bitcnt_afterPhase hf
  have hnext : Inv s.nextCycle := h.nextCycle (.inr (by rw [hf]; rfl))
  exact { hnext with
    bitcnt_le := by omega
    phase_le := by omega
    poll_phase := fun _ => by omega
    poll_cnt := fun _ => by simp [Machine.afterPhase]
    poll_last := fun _ => by
      have hlast : ((Machine.afterPhase s).last = .high ↔ ¬ s.phase.toNat % 2 = 0) :=
        (Level.eq_high_iff_of_ne hl).trans (not_congr (h.poll_last hf))
      rw [hlast, hphase]
      omega
    poll_bitcnt := fun _ => by rw [hphase, hbits]
    handshake_work := fun hn => by simp [Machine.afterPhase, hf, Fsm.handshake] at hn }

/-- A saturating poll ends the pass, not Incomplete: `timeout` is 1 (R110, R154). -/
theorem Inv.endPass_afterSaturation (h : Inv s) (hf : s.fsm = .poll) : Inv (s.endPass (afterSaturation s)) := by
  have hrel : (afterSaturation s).InvReleased := { h.released (by rw [hf]; rfl) with }
  exact hrel.endPass fun hn => by simp [classify_incomplete_iff, afterSaturation] at hn

/-- The 85th phase ends the pass, not Incomplete: 40 bits are stored by then (R111, R138). -/
theorem Inv.endPass_afterPhase (h : Inv s) (hf : s.fsm = .poll) (hp : s.phase.toNat = 84) :
    Inv (s.endPass (Machine.afterPhase s)) := by
  have hbits := h.bitcnt_afterPhase hf
  have hrel : (Machine.afterPhase s).InvReleased :=
    { h.released (by rw [hf]; rfl) with
      bitcnt_le := by omega
      phase_le := by
        simp only [Machine.afterPhase]
        bv_omega }
  have hcomplete : frameComplete s.bitcnt = true := by
    rw [frameComplete_iff, h.poll_bitcnt hf, hp]
    decide
  exact hrel.endPass fun hn => by simp [classify_incomplete_iff, hcomplete] at hn

theorem Inv.pollStep (h : Inv s) (hf : s.fsm = .poll) : Inv (pollStep s) := by
  rcases pollStep_cases s with ⟨_, e⟩ | ⟨_, _, hc, e⟩ | ⟨_, _, _, e⟩ | ⟨_, hl, hp, e⟩ | ⟨_, _, hp, e⟩ <;> rw [e]
  · exact h.nextCycle (.inr (by rw [hf]; rfl))
  · exact h.countPoll hf hc
  · exact h.endPass_afterSaturation hf
  · exact h.afterPhase hf hl hp
  · exact h.endPass_afterPhase hf hp

theorem commandStep_keeps_inv {t : State} (h : Inv s) (hf : s.fsm.resting = true) (hs : commandStep s = .next t) :
    Inv t := by
  have hnext : Inv s.nextCycle := h.nextCycle (.inl hf)
  rcases commandStep_cases s with ⟨_, e⟩ | ⟨_, i, _, e⟩ | ⟨_, _, _, e⟩ <;> rw [e] at hs
  · cases hs
    exact hnext
  · exact exec_keeps_inv h hf hs
  · cases hs
    exact hnext.raiseError hf nofun

end

/-- Settles O49, by the rows of the state machine: each row is a few operations that keep the invariant. -/
theorem stepKeepsInvariant : Obligations.StepKeepsInvariant := by
  intro s t h hs
  rcases step_cases s with ⟨_, e⟩ | ⟨_, hf, e⟩ | ⟨_, hf, e⟩ | ⟨_, hf, e⟩ | ⟨_, hf, e⟩ | ⟨_, hf, e⟩ <;> rw [e] at hs
  · cases hs
    exact s.applyReset_inv
  · exact commandStep_keeps_inv h hf hs
  · cases hs
    exact h.startLowStep hf
  · cases hs
    exact h.releaseHighStep hf
  · cases hs
    exact h.pollStep hf
  · cases hs
    exact h.returnStep (by rcases hf with hf | hf <;> rw [hf] <;> rfl)

/-! ### States that agree on every live register -/

/-- Any next states that the two results answer agree on every live register. -/
def ResultsLiveEq (r q : Result) : Prop := ∀ s' t', r = .next s' → q = .next t' → LiveEq s' t'

section
variable {s t : State}

theorem LiveEq.results (h : LiveEq s t) : ResultsLiveEq (.next s) (.next t) := by
  intro s' t' hs ht
  cases hs
  cases ht
  exact h

theorem LiveEq.input_eq (h : LiveEq s t) : s.input = t.input := State.input_congr h.inputs h.cycle

/-- R24, R78: the ports show live registers and, without a response, free values of the cycle. -/
theorem LiveEq.outputs_eq (h : LiveEq s t) : s.outputs = t.outputs := by
  have hports : s.outputs = { t.outputs with rspCode := s.outputs.rspCode, rspData := s.outputs.rspData } := by
    simp [State.outputs, State.busy, State.cmdReady, h.fsm, h.lineOut, h.lineOe, h.pull, h.paInit, h.paShutdown,
      h.rspValid]
  have hresponse : s.outputs.rspCode = t.outputs.rspCode ∧ s.outputs.rspData = t.outputs.rspData := by
    cases hv : s.rspValid with
    | true => simpa [State.outputs, ← h.rspValid, hv] using h.response hv
    | false => simp [State.outputs, ← h.rspValid, hv, h.cycle]
  rw [hports, hresponse.1, hresponse.2]

/-! ### The operations keep the agreement -/

theorem LiveEq.nextCycle (h : LiveEq s t) : LiveEq s.nextCycle t.nextCycle :=
  { h with
    rspValid := rfl
    paInit := rfl
    paShutdown := rfl
    inputs := congrArg List.tail h.inputs
    cycle := congrArg (· + 1) h.cycle
    response := nofun }

theorem LiveEq.applyReset (h : LiveEq s t) : LiveEq s.applyReset t.applyReset := by
  have hreset : s.applyReset = t.applyReset := by simp [State.applyReset, h.inputs, h.cycle]
  rw [hreset]
  constructor <;> simp

theorem LiveEq.respond (h : LiveEq s t) (c : RspCode) (d : RspData) : LiveEq (s.respond c d) (t.respond c d) :=
  { h with
    rspValid := rfl
    response := fun _ => ⟨rfl, rfl⟩ }

/-- An error's data is a function of the code and the cycle (log entry 4). -/
theorem LiveEq.raiseError (h : LiveEq s t) (e : RspCode) : LiveEq (s.raiseError e) (t.raiseError e) := by
  unfold State.raiseError
  rw [h.cycle]
  exact h.respond _ _

theorem LiveEq.commitCache (h : LiveEq s t) (f : Frame) : LiveEq (s.commitCache f) (t.commitCache f) :=
  { h with
    cacheValid := rfl
    cache := fun _ => rfl }

/-- Outside a pass the work registers and `dly` are dead, so going there asks nothing of them. -/
theorem LiveEq.leavePass (h : LiveEq s t) (hopen : s.fsm ≠ .closed) {f : Fsm} (hf : f.sampling = false) :
    LiveEq { s with fsm := f } { t with fsm := f } :=
  { h with
    fsm := rfl
    variant := fun _ => h.variant hopen
    work := (absurd · (Bool.eq_false_iff.1 hf))
    dly := fun hn => absurd ((Fsm.sampling_iff _).2 (.inl hn)) (Bool.eq_false_iff.1 hf) }

/-- READ writes every work register and `dly` before the pass reads them (R196). -/
theorem LiveEq.startPass (h : LiveEq s t) (hopen : s.fsm ≠ .closed) : LiveEq s.startPass t.startPass :=
  { h with
    fsm := rfl
    lineOe := rfl
    lineOut := rfl
    variant := fun _ => h.variant hopen
    work := fun _ => ⟨rfl, rfl, rfl, rfl, rfl, rfl⟩
    dly := fun _ => rfl }

/-- OPEN writes the variant and clears `cache_valid` (R191). -/
theorem LiveEq.opened (h : LiveEq s t) (v : Variant) : LiveEq (s.opened v) (t.opened v) :=
  { h.nextCycle with
    fsm := rfl
    cacheValid := rfl
    paInit := rfl
    variant := fun _ => rfl
    cache := nofun
    work := nofun
    dly := nofun }

theorem LiveEq.withPaInit (h : LiveEq s t) (b : Bool) : LiveEq { s with paInit := b } { t with paInit := b } :=
  { h with paInit := rfl }

theorem LiveEq.closedFromIdle (h : LiveEq s t) (hf : s.fsm = .idle) : LiveEq s.closedFromIdle t.closedFromIdle :=
  { h.nextCycle.leavePass (f := .closed) (by simp [hf]) rfl with
    lineOe := rfl
    pull := rfl
    paShutdown := rfl }

/-! ### The commands keep the agreement: both runs take the same branch -/

theorem LiveEq.execOpen (h : LiveEq s t) (arg : Nat) : ResultsLiveEq (execOpen arg s) (execOpen arg t) := by
  unfold Machine.execOpen
  rw [h.fsm, h.input_eq]
  split
  · exact (h.nextCycle.raiseError _).results
  · cases variantOfCode arg with
    | none => exact (h.nextCycle.raiseError _).results
    | some v =>
      dsimp only
      split
      · exact ((h.opened v).respond _ _).results
      · exact ((h.nextCycle.withPaInit true).raiseError _).results

theorem LiveEq.execRead (h : LiveEq s t) : ResultsLiveEq (execRead s) (execRead t) := by
  unfold Machine.execRead
  rw [← h.fsm]
  split
  · exact (h.nextCycle.raiseError _).results
  · next hopen => exact (h.nextCycle.startPass hopen).results

/-- TEMP and HUM differ only in the conversion of the cached frame (R176, R177). -/
def execConvert (data : Variant → Frame → RspData) (s : State) : Result :=
  if s.fsm = .closed then .next (s.nextCycle.raiseError .notOpen)
  else if s.cacheValid = false then .next (s.nextCycle.raiseError .noData)
  else .next (s.nextCycle.respond .ok (data s.variant s.cache))

theorem execTemp_eq_execConvert (s : State) : execTemp s = execConvert tempData s := rfl
theorem execHum_eq_execConvert (s : State) : execHum s = execConvert humData s := rfl

theorem LiveEq.execConvert (h : LiveEq s t) (data : Variant → Frame → RspData) :
    ResultsLiveEq (execConvert data s) (execConvert data t) := by
  unfold Machine.execConvert
  rw [← h.fsm, ← h.cacheValid]
  split
  · exact (h.nextCycle.raiseError _).results
  split
  · exact (h.nextCycle.raiseError _).results
  · next hopen hcache =>
    rw [h.variant hopen, h.cache (by simpa using hcache)]
    exact (h.nextCycle.respond _ _).results

theorem LiveEq.execClose (h : LiveEq s t) : ResultsLiveEq (execClose s) (execClose t) := by
  unfold Machine.execClose
  rw [← h.fsm]
  split
  · next hidle => exact ((h.closedFromIdle hidle).respond _ _).results
  · exact (h.nextCycle.respond _ _).results

theorem LiveEq.exec (h : LiveEq s t) (i : Instr) : ResultsLiveEq (exec i s) (exec i t) := by
  cases i with
  | cmdOpen arg => exact h.execOpen arg
  | cmdRead => exact h.execRead
  | cmdTemp =>
    rw [exec_cmdTemp, exec_cmdTemp, execTemp_eq_execConvert, execTemp_eq_execConvert]
    exact h.execConvert tempData
  | cmdHum =>
    rw [exec_cmdHum, exec_cmdHum, execHum_eq_execConvert, execHum_eq_execConvert]
    exact h.execConvert humData
  | cmdClose => exact h.execClose

theorem LiveEq.commandStep (h : LiveEq s t) : ResultsLiveEq (commandStep s) (commandStep t) := by
  unfold Machine.commandStep
  rw [h.input_eq]
  split
  · cases decode t.input.cmd with
    | ok i => exact h.exec i
    | error e => exact (h.nextCycle.raiseError _).results
  · exact h.nextCycle.results

/-! ### The steps of a pass keep the agreement -/

theorem LiveEq.startLowStep (h : LiveEq s t) (hf : s.fsm = .startLow) : LiveEq (startLowStep s) (startLowStep t) := by
  have hdly : s.dly = t.dly := h.dly (by rw [hf]; rfl)
  have hwork := h.work (by rw [hf]; rfl)
  unfold Machine.startLowStep
  rw [h.input_eq, hdly]
  dsimp only
  split
  · split
    · exact { h.nextCycle with dly := fun _ => rfl }
    · exact { h.nextCycle with
        fsm := rfl
        lineOut := rfl
        variant := fun _ => h.variant (by simp [hf])
        work := fun _ => hwork
        dly := fun _ => rfl }
  · exact h.nextCycle

theorem LiveEq.releaseHighStep (h : LiveEq s t) (hf : s.fsm = .releaseHigh) :
    LiveEq (releaseHighStep s) (releaseHighStep t) := by
  have hdly : s.dly = t.dly := h.dly (by rw [hf]; rfl)
  have hwork := h.work (by rw [hf]; rfl)
  unfold Machine.releaseHighStep
  rw [h.input_eq, hdly]
  dsimp only
  split
  · split
    · exact { h.nextCycle with dly := fun _ => rfl }
    · exact { h.nextCycle with
        fsm := rfl
        lineOe := rfl
        pull := rfl
        variant := fun _ => h.variant (by simp [hf])
        work := fun _ => hwork
        dly := nofun }
  · exact h.nextCycle

/-- The end of a pass reads the work registers of its last step alone (R115). -/
theorem LiveEq.endPass {u v : State} (h : LiveEq u v) (hopen : u.fsm ≠ .closed) (hbuf : s.buf = t.buf)
    (hbitcnt : s.bitcnt = t.bitcnt) (htimeout : u.timeout = v.timeout) : LiveEq (s.endPass u) (t.endPass v) := by
  unfold State.endPass
  rw [hbuf, hbitcnt, htimeout]
  cases classify t.bitcnt t.buf v.timeout with
  | valid => exact ((h.commitCache _).respond _ _).leavePass hopen rfl
  | incomplete => exact (h.raiseError _).leavePass hopen rfl
  | checksumMismatch => exact (h.raiseError _).leavePass hopen rfl
  | samplingTimeout => exact (h.raiseError _).leavePass hopen rfl

theorem LiveEq.afterSaturation (h : LiveEq s t) (hf : s.fsm = .poll) :
    LiveEq (afterSaturation s) (afterSaturation t) := by
  obtain ⟨hbuf, hbitcnt, hphase, _, hlast, _⟩ := h.work (by rw [hf]; rfl)
  exact { h.nextCycle with work := fun _ => ⟨hbuf, hbitcnt, hphase, rfl, hlast, rfl⟩ }

theorem pollSame_eq (s : State) :
    pollSame s = if s.cnt.toNat < Config.tickSat - 1 then { s.nextCycle with cnt := s.cnt + 1#8 }
      else s.endPass (afterSaturation s) := rfl

theorem LiveEq.pollSame (h : LiveEq s t) (hf : s.fsm = .poll) : LiveEq (pollSame s) (pollSame t) := by
  obtain ⟨hbuf, hbitcnt, hphase, hcnt, hlast, htimeout⟩ := h.work (by rw [hf]; rfl)
  rw [pollSame_eq, pollSame_eq, hcnt]
  split
  · exact { h.nextCycle with work := fun _ => ⟨hbuf, hbitcnt, hphase, rfl, hlast, htimeout⟩ }
  · exact (h.afterSaturation hf).endPass (by simp [Machine.afterSaturation, hf]) hbuf hbitcnt rfl

theorem LiveEq.afterPhase (h : LiveEq s t) (hf : s.fsm = .poll) : LiveEq (afterPhase s) (afterPhase t) := by
  obtain ⟨hbuf, hbitcnt, hphase, hcnt, _, htimeout⟩ := h.work (by rw [hf]; rfl)
  have hasm : s.assembly = t.assembly := by simp [State.assembly, hbuf, hbitcnt]
  exact { h.nextCycle with
    work := fun _ => by simp [Machine.afterPhase, hasm, hphase, hcnt, h.input_eq, htimeout]
    dly := fun hn => by simp [Machine.afterPhase, hf, Fsm.handshake] at hn }

theorem pollChanged_eq (s : State) :
    pollChanged s = if s.phase.toNat + 1 = Config.maxPhases then s.endPass (afterPhase s) else afterPhase s := rfl

theorem LiveEq.pollChanged (h : LiveEq s t) (hf : s.fsm = .poll) : LiveEq (pollChanged s) (pollChanged t) := by
  obtain ⟨hbuf, hbitcnt, hphase, hcnt, _, htimeout⟩ := h.work (by rw [hf]; rfl)
  have hafter := h.afterPhase hf
  rw [pollChanged_eq, pollChanged_eq, hphase]
  split
  · exact hafter.endPass (by simp [Machine.afterPhase, hf]) hbuf hbitcnt htimeout
  · exact hafter

theorem LiveEq.pollStep (h : LiveEq s t) (hf : s.fsm = .poll) : LiveEq (pollStep s) (pollStep t) := by
  obtain ⟨_, _, _, _, hlast, _⟩ := h.work (by rw [hf]; rfl)
  unfold Machine.pollStep
  rw [h.input_eq, hlast]
  split
  · split
    · exact h.pollSame hf
    · exact h.pollChanged hf
  · exact h.nextCycle

theorem LiveEq.step (h : LiveEq s t) : ResultsLiveEq (step s) (step t) := by
  unfold Machine.step
  rw [h.input_eq, ← h.fsm]
  split
  · exact h.applyReset.results
  · cases hf : s.fsm with
    | closed => exact h.commandStep
    | idle => exact h.commandStep
    | startLow => exact (h.startLowStep hf).results
    | releaseHigh => exact (h.releaseHighStep hf).results
    | poll => exact (h.pollStep hf).results
    | frameReady => exact (h.nextCycle.leavePass (by simp [hf]) rfl).results
    | failed => exact (h.nextCycle.leavePass (by simp [hf]) rfl).results

end

/-- Settles O50: the ports show live registers, and every step reads and keeps live registers alone. -/
theorem unreadRegistersDoNotMatter : Obligations.UnreadRegistersDoNotMatter :=
  fun _ _ h => ⟨h.outputs_eq, h.step⟩

/-! ### What a command leaves unchanged (R34) -/

/-- Settles O24, by everything a command can do. -/
theorem commandFrames : Obligations.CommandFrames := by
  intro i s t h
  cases exec_cases h with
  | answer c d => simp
  | initError hf hi =>
    obtain ⟨arg, rfl⟩ := hi.exists_arg
    simp
  | opened v hf hi =>
    obtain ⟨arg, rfl⟩ := hi.exists_arg
    simp [State.opened]
  | started hf hi => simp [hi]
  | closed hf hi => simp [hi, State.closedFromIdle]

/-! ### Decoded words (R71, R75) -/

theorem opField_append_argField (w : CmdWord) : opField w ++ argField w = w := by
  have h := BitVec.extractLsb'_append_extractLsb'_eq_extractLsb' (x := w) (len₁ := 8) (len₂ := 8) (Nat.zero_add 8).symm
  exact h.trans BitVec.extractLsb'_eq_self

/-- The row of OPEN fixes the upper byte alone (R71). -/
theorem opField_of_matchesRow {w : CmdWord} (h : matchesRow w 0xFF00#16 0x0100#16 = true) : opField w = 0x01#8 := by
  have hw : w &&& 0xFF00#16 = 0x0100#16 := beq_iff_eq.1 h
  calc opField w = opField w &&& 0xFF#8 := BitVec.and_allOnes.symm
    _ = opField (w &&& 0xFF00#16) := by rw [opField, opField, BitVec.extractLsb'_and]; rfl
    _ = 0x01#8 := by rw [hw]; rfl

/-- The row of a command without operand fixes the whole word (R71). -/
theorem eq_of_matchesRow {w p : CmdWord} (h : matchesRow w 0xFFFF#16 p = true) : w = p := by
  have hw : w &&& 0xFFFF#16 = p := beq_iff_eq.1 h
  exact BitVec.and_allOnes.symm.trans hw

/-- No bit of a word that decodes is ignored (R75). -/
theorem encode_of_decode_ok {w : CmdWord} {i : Instr} (h : decode w = .ok i) : encode i = w := by
  unfold decode at h
  split_ifs at h with hopen hread htemp hhum hclose <;> cases h
  · rw [encode, BitVec.ofNat_toNat, BitVec.setWidth_eq, ← opField_of_matchesRow hopen, opField_append_argField]
  · exact (eq_of_matchesRow hread).symm
  · exact (eq_of_matchesRow htemp).symm
  · exact (eq_of_matchesRow hhum).symm
  · exact (eq_of_matchesRow hclose).symm

theorem decode_eq_ok_iff {v : CmdWord} {i : Instr} (hv : decode v = .ok i) (w : CmdWord) : decode w = .ok i ↔ w = v :=
  ⟨fun hw => (encode_of_decode_ok hw).symm.trans (encode_of_decode_ok hv), fun h => h ▸ hv⟩

/-! ### The request pulses (R28) -/

theorem exec_pulses {i : Instr} {s t : State} (h : exec i s = .next t) :
    (t.paInit = true ↔ s.fsm = .closed ∧ IsKnownOpen i) ∧ (t.paShutdown = true ↔ s.fsm = .idle ∧ i = .cmdClose) := by
  cases exec_cases h with
  | answer c d hc hopen hclose => simp [hopen, hclose]
  | initError hf hi => simp [hf, hi]
  | opened v hf hi => simp [State.opened, hf, hi]
  | started hf hi => simp [hf, hi]
  | closed hf hi => simp [hf, hi, State.closedFromIdle]

/-- The words of the two OPENs that can succeed (R73, R76). -/
theorem knownOpen_word_iff (w : CmdWord) : (w = 0x010B#16 ∨ w = 0x0116#16) ↔ ∃ i, decode w = .ok i ∧ IsKnownOpen i := by
  have hA : decode w = .ok (.cmdOpen 11) ↔ w = 0x010B#16 := decode_eq_ok_iff (by decide) w
  have hB : decode w = .ok (.cmdOpen 22) ↔ w = 0x0116#16 := decode_eq_ok_iff (by decide) w
  rw [← hA, ← hB]
  constructor
  · rintro (h | h)
    · exact ⟨_, h, .inl rfl⟩
    · exact ⟨_, h, .inr rfl⟩
  · rintro ⟨i, h, rfl | rfl⟩
    · exact .inl h
    · exact .inr h

theorem close_word_iff (w : CmdWord) : w = 0x0500#16 ↔ decode w = .ok .cmdClose :=
  (decode_eq_ok_iff (by decide) w).symm

/-- The pulses after a cycle of the command port are those of the command it runs. -/
theorem commandStep_pulses {s t : State} (h : commandStep s = .next t) :
    (t.paInit = true ↔ s.input.cmdValid = true ∧ s.fsm = .closed ∧
      (s.input.cmd = 0x010B#16 ∨ s.input.cmd = 0x0116#16)) ∧
    (t.paShutdown = true ↔ s.input.cmdValid = true ∧ s.fsm = .idle ∧ s.input.cmd = 0x0500#16) := by
  rw [knownOpen_word_iff, close_word_iff]
  rcases commandStep_cases s with ⟨hv, e⟩ | ⟨hv, i, hd, e⟩ | ⟨hv, _, hd, e⟩
  · cases e.symm.trans h
    simp [hv]
  · simpa [hv, hd] using exec_pulses (e.symm.trans h)
  · cases e.symm.trans h
    simp [hd]

/-- Neither request pulse is up in this state. -/
def State.NoPulse (t : State) : Prop := t.paInit = false ∧ t.paShutdown = false

theorem startLowStep_noPulse (s : State) : (startLowStep s).NoPulse := by
  rcases startLowStep_cases s with ⟨_, e⟩ | ⟨_, _, e⟩ | ⟨_, _, e⟩ <;> rw [e] <;> exact ⟨rfl, rfl⟩

theorem releaseHighStep_noPulse (s : State) : (releaseHighStep s).NoPulse := by
  rcases releaseHighStep_cases s with ⟨_, e⟩ | ⟨_, _, e⟩ | ⟨_, _, e⟩ <;> rw [e] <;> exact ⟨rfl, rfl⟩

theorem State.endPass_noPulse (s : State) {u : State} (h : u.NoPulse) : (s.endPass u).NoPulse := by
  rw [State.endPass_eq]
  exact h

theorem pollStep_noPulse (s : State) : (pollStep s).NoPulse := by
  rcases pollStep_cases s with ⟨_, e⟩ | ⟨_, _, _, e⟩ | ⟨_, _, _, e⟩ | ⟨_, _, _, e⟩ | ⟨_, _, _, e⟩ <;> rw [e]
  · exact ⟨rfl, rfl⟩
  · exact ⟨rfl, rfl⟩
  · exact s.endPass_noPulse ⟨rfl, rfl⟩
  · exact ⟨rfl, rfl⟩
  · exact s.endPass_noPulse ⟨rfl, rfl⟩

/-- Without reset, only a cycle of the command port can raise a pulse. -/
theorem noPulse_of_not_resting {s t : State} (hr : s.input.rst = false) (hf : s.fsm.resting = false)
    (h : step s = .next t) : t.NoPulse := by
  rcases step_cases s with ⟨h1, e⟩ | ⟨_, h1, e⟩ | ⟨_, h1, e⟩ | ⟨_, h1, e⟩ | ⟨_, h1, e⟩ | ⟨_, h1, e⟩
  · simp [hr] at h1
  · simp [hf] at h1
  · cases e.symm.trans h
    exact startLowStep_noPulse s
  · cases e.symm.trans h
    exact releaseHighStep_noPulse s
  · cases e.symm.trans h
    exact pollStep_noPulse s
  · cases e.symm.trans h
    exact ⟨rfl, rfl⟩

/-- Settles O14: a reset raises no pulse, and without one only the command port does. -/
theorem requestPulses : Obligations.RequestPulses := by
  intro s t h
  cases hr : s.input.rst with
  | true =>
    obtain rfl : s.applyReset = t := by simpa [step, hr] using h
    simp [State.reset]
  | false =>
    cases hf : s.fsm.resting with
    | true => simpa using commandStep_pulses ((step_of_resting hr hf).symm.trans h)
    | false =>
      obtain ⟨hinit, hshutdown⟩ := noPulse_of_not_resting hr hf h
      have hclosed : s.fsm ≠ .closed := fun e => by simp [e, Fsm.resting] at hf
      have hidle : s.fsm ≠ .idle := fun e => by simp [e, Fsm.resting] at hf
      simp [hinit, hshutdown, hclosed, hidle]

/-! ### Frames of the steps of a pass (R34) -/

/-- What a handshake step leaves unchanged, with no response. -/
def HandshakeFrame (s t : State) : Prop :=
  t.variant = s.variant ∧ t.cache = s.cache ∧ t.cacheValid = s.cacheValid ∧ t.buf = s.buf ∧
    t.bitcnt = s.bitcnt ∧ t.phase = s.phase ∧ t.cnt = s.cnt ∧ t.last = s.last ∧ t.timeout = s.timeout ∧
    t.rspValid = false

/-- What every poll leaves unchanged. -/
def PollFrame (s t : State) : Prop :=
  t.variant = s.variant ∧ t.dly = s.dly ∧ t.lineOe = s.lineOe ∧ t.lineOut = s.lineOut ∧ t.pull = s.pull

/-- What a poll that does not end the pass leaves unchanged, with no response. -/
def UnfinishedPollFrame (s t : State) : Prop :=
  t.cache = s.cache ∧ t.cacheValid = s.cacheValid ∧ t.timeout = s.timeout ∧ t.rspValid = false

theorem startLowStep_frame (s : State) : HandshakeFrame s (startLowStep s) := by
  rcases startLowStep_cases s with ⟨_, e⟩ | ⟨_, _, e⟩ | ⟨_, _, e⟩ <;> rw [e] <;> simp [HandshakeFrame]

theorem releaseHighStep_frame (s : State) : HandshakeFrame s (releaseHighStep s) := by
  rcases releaseHighStep_cases s with ⟨_, e⟩ | ⟨_, _, e⟩ | ⟨_, _, e⟩ <;> rw [e] <;> simp [HandshakeFrame]

theorem State.endPass_pollFrame (s : State) {r u : State} (h : PollFrame r u) : PollFrame r (s.endPass u) := by
  rw [State.endPass_eq]
  exact h

theorem pollStep_frame (s : State) : PollFrame s (pollStep s) := by
  have hsat : PollFrame s (afterSaturation s) := ⟨rfl, rfl, rfl, rfl, rfl⟩
  have hphase : PollFrame s (afterPhase s) := ⟨rfl, rfl, rfl, rfl, rfl⟩
  rcases pollStep_cases s with ⟨_, e⟩ | ⟨_, _, _, e⟩ | ⟨_, _, _, e⟩ | ⟨_, _, _, e⟩ | ⟨_, _, _, e⟩ <;> rw [e]
  · exact ⟨rfl, rfl, rfl, rfl, rfl⟩
  · exact ⟨rfl, rfl, rfl, rfl, rfl⟩
  · exact s.endPass_pollFrame hsat
  · exact hphase
  · exact s.endPass_pollFrame hphase

theorem State.endPass_fsm_ne_poll (s u : State) : (s.endPass u).fsm ≠ .poll := by
  obtain ⟨hf | hf, _⟩ := State.endPass_answered s u <;> simp [hf]

theorem pollStep_unfinished_frame (s : State) (hf : (pollStep s).fsm = .poll) : UnfinishedPollFrame s (pollStep s) := by
  rcases pollStep_cases s with ⟨_, e⟩ | ⟨_, _, _, e⟩ | ⟨_, _, _, e⟩ | ⟨_, _, _, e⟩ | ⟨_, _, _, e⟩ <;> rw [e] at hf ⊢
  · exact ⟨rfl, rfl, rfl, rfl⟩
  · exact ⟨rfl, rfl, rfl, rfl⟩
  · exact absurd hf (State.endPass_fsm_ne_poll _ _)
  · exact ⟨rfl, rfl, rfl, rfl⟩
  · exact absurd hf (State.endPass_fsm_ne_poll _ _)

/-- R198: FrameReady and Failed return to Idle. -/
theorem step_of_answered {s : State} (hr : s.input.rst = false) (hf : s.fsm = .frameReady ∨ s.fsm = .failed) :
    step s = .next (returnStep s) := by
  rcases hf with hf | hf <;> simp [step, hr, hf]

/-- Settles O28, by the sequencer states of a pass. -/
theorem passStepFrames : Obligations.PassStepFrames := by
  intro s t hr h
  refine ⟨fun hf => ?_, fun hf => ?_, fun hf hft => ?_, fun hf => ?_⟩
  · rcases (Fsm.handshake_iff _).1 hf with hf | hf
    · cases (step_of_startLow hr hf).symm.trans h
      exact startLowStep_frame s
    · cases (step_of_releaseHigh hr hf).symm.trans h
      exact releaseHighStep_frame s
  · cases (step_of_poll hr hf).symm.trans h
    exact pollStep_frame s
  · cases (step_of_poll hr hf).symm.trans h
    exact pollStep_unfinished_frame s hft
  · cases (step_of_answered hr hf).symm.trans h
    rfl

/-! ### Reset and the output ports -/

/-- Settles O10, field by field. -/
theorem resetLeavesSpecValues : Obligations.ResetLeavesSpecValues :=
  ⟨rfl, rfl, rfl, rfl, rfl, rfl, rfl, rfl, rfl⟩

/-- Settles O15: the ports are the registers, and `cmd_ready` is readiness. -/
theorem outputPorts : Obligations.OutputPorts := by
  intro s
  have hready : s.outputs.cmdReady = true ↔ s.fsm = .closed ∨ s.fsm = .idle := Fsm.resting_iff s.fsm
  have hresponse : s.rspValid = true → s.outputs.rspCode = s.rspCode ∧ s.outputs.rspData = s.rspData :=
    fun hv => ⟨if_pos hv, if_pos hv⟩
  refine ⟨hready, rfl, fun ho => ?_, fun ho => ?_, rfl, rfl, rfl, rfl, rfl, rfl, hresponse⟩ <;>
    simp [State.lineDrive, ho]

end Sys2Proof.Machine
end

section
/-! PROOFS of the family `20_memory`: TEMP and HUM change nothing but the response (O22), and the bits of a pass arrive
in the frame most significant first (O31). -/

namespace Sys2Proof.Machine

/-! ### TEMP and HUM leave everything but the response (R57) -/

/-- `s` with the response, the request pulses, the inputs and the cycle number of `u`. -/
def State.withResponseOf (s u : State) : State :=
  { s with
    rspValid := u.rspValid, rspCode := u.rspCode, rspData := u.rspData, paInit := u.paInit,
    paShutdown := u.paShutdown, inputs := u.inputs, cycle := u.cycle }

/-- An idle cycle, or one that presents TEMP or HUM. -/
def Inputs.IsAccess (i : Inputs) : Prop :=
  i.rst = false ∧ (i.cmdValid = true → i.cmd = 0x0300#16 ∨ i.cmd = 0x0400#16)

theorem State.eq_withResponseOf_trans {s t u : State} (hst : t = s.withResponseOf t) (htu : u = t.withResponseOf u) :
    u = s.withResponseOf u :=
  htu.trans (congrArg (·.withResponseOf u) hst)

/-- TEMP and HUM respond and do nothing else, in every state (R176, R177). -/
theorem execConvert_responds (data : Variant → Frame → RspData) (s : State) :
    ∃ c d, execConvert data s = .next (s.nextCycle.respond c d) := by
  unfold execConvert
  split
  · exact ⟨.notOpen, _, rfl⟩
  split
  · exact ⟨.noData, _, rfl⟩
  · exact ⟨.ok, _, rfl⟩

/-- The response of TEMP and HUM, but for the data of NoData, does not depend on the response registers, the inputs and
the cycle. -/
theorem execConvert_same_response {data : Variant → Frame → RspData} {s t u v : State} (hst : t = s.withResponseOf t)
    (hu : execConvert data s = .next u) (hv : execConvert data t = .next v) :
    v.rspCode = u.rspCode ∧ (u.rspCode ≠ 9#4 → v.rspData = u.rspData) := by
  have hfsm : t.fsm = s.fsm := (congrArg State.fsm hst).trans rfl
  have hvalid : t.cacheValid = s.cacheValid := (congrArg State.cacheValid hst).trans rfl
  have hvariant : t.variant = s.variant := (congrArg State.variant hst).trans rfl
  have hcache : t.cache = s.cache := (congrArg State.cache hst).trans rfl
  unfold execConvert at hu hv
  rw [hfsm, hvalid, hvariant, hcache] at hv
  split_ifs at hu hv <;> cases hu <;> cases hv
  · exact ⟨rfl, fun _ => rfl⟩
  · exact ⟨rfl, fun hne => absurd rfl hne⟩
  · exact ⟨rfl, fun _ => rfl⟩

/-- The words 0x0300 and 0x0400 run a conversion of the cached frame (R71). -/
theorem exec_of_access_word {w : CmdWord} (hw : w = 0x0300#16 ∨ w = 0x0400#16) :
    ∃ i data, decode w = .ok i ∧ exec i = execConvert data := by
  rcases hw with rfl | rfl
  · exact ⟨.cmdTemp, tempData, by decide, rfl⟩
  · exact ⟨.cmdHum, humData, by decide, rfl⟩

theorem step_of_access {s : State} (hf : s.fsm.resting = true) (hi : s.input.IsAccess) :
    ∃ t, step s = .next t ∧ t = s.withResponseOf t := by
  obtain ⟨hr, hcmd⟩ := hi
  cases hv : s.input.cmdValid with
  | false => exact ⟨s.nextCycle, by simp [step_of_resting hr hf, commandStep, hv], rfl⟩
  | true =>
    obtain ⟨i, data, hd, hexec⟩ := exec_of_access_word (hcmd hv)
    obtain ⟨c, d, hresponse⟩ := execConvert_responds data s
    refine ⟨s.nextCycle.respond c d, ?_, rfl⟩
    rw [step_of_decode_ok hr hf hv hd, hexec, hresponse]

/-- R57 over a whole run, by induction on its cycles. -/
theorem run_of_access {s : State} {ins r : List Inputs} (hs : s.inputs = ins ++ r) (hf : s.fsm.resting = true)
    (hins : ∀ i ∈ ins, i.IsAccess) :
    ∃ t, run ins.length s = .next t ∧ t = s.withResponseOf t ∧ t.inputs = r ∧ t.cycle = s.cycle + ins.length := by
  induction ins generalizing s with
  | nil => exact ⟨s, rfl, rfl, hs, rfl⟩
  | cons i ins ih =>
    obtain ⟨hi, hrest⟩ := List.forall_mem_cons.1 hins
    obtain ⟨u, hstep, hsu⟩ := step_of_access hf (State.input_of_cons hs ▸ hi)
    obtain ⟨_, hnext, htail, hcycle⟩ := stepAlwaysAnswersNext s
    cases hstep.symm.trans hnext
    have hfu : u.fsm.resting = true := (congrArg (·.fsm.resting) hsu).trans hf
    obtain ⟨t, hrun, hut, hinputs, htcycle⟩ := ih (by rw [htail, hs]; rfl) hfu hrest
    refine ⟨t, ?_, State.eq_withResponseOf_trans hsu hut, hinputs, ?_⟩
    · rw [List.length_cons, run_succ_of_next hstep, hrun]
    · rw [htcycle, hcycle, List.length_cons]
      omega

/-- Settles O22: a run of TEMP, HUM and idle cycles keeps all that the two commands read, and polls keep the line. -/
theorem accessorsArePure : Obligations.AccessorsArePure := by
  refine ⟨fun s ins r hf hins => ?_, fun s t hf hr h => ?_⟩
  · obtain ⟨t, hrun, hst, hinputs, hcycle⟩ :=
      run_of_access (s := { s with inputs := ins ++ r }) rfl ((Fsm.resting_iff _).2 hf) hins
    refine ⟨t, hrun, ?_, fun u v => execConvert_same_response hst, fun u v => execConvert_same_response hst⟩
    rw [← hinputs, ← hcycle]
    exact hst
  · cases (step_of_poll hr hf).symm.trans h
    obtain ⟨_, _, hoe, hout, hpull⟩ := pollStep_frame s
    exact ⟨hoe, hout, hpull⟩

/-! ### Where the stored bits stand (R52, R134) -/

/-- Byte `q` of a frame stands in bits `8 * (4 - q) + 7` down to `8 * (4 - q)` of the response data (R54). -/
theorem Frame.getLsbD_data (f : Frame) {q p : Nat} (hq : q < 5) (hp : p < 8) :
    f.data.getLsbD (8 * (4 - q) + p) = (f.get q).getLsbD p := by
  unfold Frame.data
  match q, hq with
  | 0, _ | 1, _ | 2, _ | 3, _ | 4, _ =>
    simp (disch := omega) only [BitVec.getLsbD_append, Frame.get, if_pos, if_neg]
    congr 1
    omega

/-- Bit `j` of a frame stands in byte `j / 8`, counted from its most significant bit (R52). -/
theorem Frame.bit_eq_getLsbD_get (f : Frame) {j : Nat} (hj : j < 40) :
    f.bit j = (f.get (j / 8)).getLsbD (7 - j % 8) := by
  have hplace : 39 - j = 8 * (4 - j / 8) + (7 - j % 8) := by omega
  rw [Frame.bit, hplace, f.getLsbD_data (by omega) (by omega)]

/-- After `n` stored bits, the place of bit `j` in its byte: the later bits of the same byte stand below it. -/
def bitPlace (n j : Nat) : Nat := min n (8 * (j / 8) + 8) - 1 - j

theorem bitPlace_lt (n j : Nat) : bitPlace n j < 8 := by
  unfold bitPlace
  omega

theorem bitPlace_full {j : Nat} (hj : j < 40) : bitPlace 40 j = 7 - j % 8 := by
  unfold bitPlace
  omega

@[simp] theorem bitPlace_last (n : Nat) : bitPlace (n + 1) n = 0 := by
  unfold bitPlace
  omega

theorem bitPlace_succ_same_byte {n j : Nat} (hj : j < n) (h : j / 8 = n / 8) :
    bitPlace (n + 1) j = bitPlace n j + 1 := by
  unfold bitPlace
  omega

theorem bitPlace_succ_other_byte {n j : Nat} (hj : j < n) (h : j / 8 ≠ n / 8) : bitPlace (n + 1) j = bitPlace n j := by
  unfold bitPlace
  omega

/-- The assembly has stored the bits `bs`, in this order. -/
structure Assembly.Holds (a : Assembly) (bs : List Bool) : Prop where
  bitcnt : a.bitcnt.toNat = bs.length
  bits : ∀ j, (hj : j < bs.length) → (a.buf.get (j / 8)).getLsbD (bitPlace bs.length j) = bs[j]

theorem Assembly.start_holds : Assembly.start.Holds [] := ⟨rfl, fun _ hj => absurd hj (Nat.not_lt_zero _)⟩

/-- The bits of a byte after one more bit is shifted in (R134). -/
theorem getLsbD_shiftIn (x : Byte) (b : Bool) {p : Nat} (hp : p < 8) :
    ((x <<< 1) ||| (if b then 1#8 else 0#8)).getLsbD p = if p = 0 then b else x.getLsbD (p - 1) := by
  rw [BitVec.getLsbD_or, BitVec.getLsbD_shiftLeft]
  cases p with
  | zero => cases b <;> rfl
  | succ p => cases b <;> simp [Nat.lt_of_succ_lt hp, hp]

theorem Assembly.storeBit_buf (a : Assembly) (b : Bool) :
    (a.storeBit b).buf = a.buf.set (a.bitcnt.toNat / 8)
      ((a.buf.get (a.bitcnt.toNat / 8) <<< 1) ||| (if b then 1#8 else 0#8)) := rfl

/-- A bit stored as number `n` pushes the earlier bits of its byte up by one place and leaves the other bytes. -/
theorem Assembly.Holds.storeBit {a : Assembly} {bs : List Bool} (h : a.Holds bs) (hn : bs.length < 40) (b : Bool) :
    (a.storeBit b).Holds (bs ++ [b]) := by
  have hlen : (bs ++ [b]).length = bs.length + 1 := List.length_append
  refine ⟨by rw [a.storeBit_bitcnt b (h.bitcnt ▸ hn), h.bitcnt, hlen], fun j hj => ?_⟩
  have hdiv : bs.length / 8 < 5 := by omega
  rw [a.storeBit_buf b, h.bitcnt]
  simp only [hlen] at hj ⊢
  obtain rfl | hj := Nat.eq_or_lt_of_le (Nat.le_of_lt_succ hj)
  · rw [Frame.get_set_self _ hdiv, getLsbD_shiftIn _ _ (bitPlace_lt _ _), bitPlace_last, if_pos rfl,
      List.getElem_concat_length rfl]
  rw [List.getElem_append_left hj, ← h.bits j hj]
  by_cases hbyte : j / 8 = bs.length / 8
  · rw [hbyte, Frame.get_set_self _ hdiv, getLsbD_shiftIn _ _ (bitPlace_lt _ _), bitPlace_succ_same_byte hj hbyte,
      if_neg (Nat.succ_ne_zero _), Nat.add_sub_cancel]
  · rw [Frame.get_set_other _ hdiv (by omega) (Ne.symm hbyte), bitPlace_succ_other_byte hj hbyte]

theorem Assembly.foldl_storeBit_holds {bs : List Bool} (h : bs.length ≤ 40) :
    (bs.foldl Assembly.storeBit Assembly.start).Holds bs := by
  induction bs using List.reverseRecOn with
  | nil => exact Assembly.start_holds
  | append_singleton bs b ih =>
    rw [List.length_append, List.length_singleton] at h
    rw [List.foldl_concat]
    exact (ih (by omega)).storeBit (by omega) b

/-- Settles O31, by where each bit stands after any number of stored bits. -/
theorem bitsArriveMsbFirst : Obligations.BitsArriveMsbFirst := by
  intro bs hlen
  have h := Assembly.foldl_storeBit_holds hlen.le
  refine ⟨BitVec.eq_of_toNat_eq (h.bitcnt.trans hlen), fun j hj => ?_⟩
  rw [Frame.bit_eq_getLsbD_get _ hj, ← bitPlace_full hj, ← hlen, h.bits j (hlen ▸ hj)]
  exact List.getElem?_eq_getElem _

end Sys2Proof.Machine
end

section
/-! PROOFS of the family `30_encoding`: the decoder and the encoder (O1 to O4), the steps of the command port (O4 to O6),
when commands are answered (O12, O13), and the variant outside the resting states (O51). -/

namespace Sys2Proof.Machine

/-! ### The decoder and the encoder agree (R70 to R75) -/

/-- The lower byte of a word of OPEN is its operand (R70). -/
theorem argField_encode_cmdOpen {arg : Nat} (h : arg < 256) : (argField (encode (.cmdOpen arg))).toNat = arg := by
  have hfield : argField (encode (.cmdOpen arg)) = BitVec.ofNat 8 arg := BitVec.extractLsb'_append_eq_right
  rw [hfield, BitVec.toNat_ofNat, Nat.mod_eq_of_lt h]

/-- A word in the row of OPEN decodes to an OPEN with the lower byte as operand (R71). -/
theorem decode_of_matchesRow_cmdOpen {w : CmdWord} (h : matchesRow w 0xFF00#16 0x0100#16 = true) :
    decode w = .ok (.cmdOpen (argField w).toNat) := by
  rw [decode, if_pos h]

/-- Settles O2: the word of an OPEN lies in its row with the operand below it; the other four words are fixed. -/
theorem decodeEncodeRoundTrip : Obligations.DecodeEncodeRoundTrip := by
  intro i hi
  cases i with
  | cmdOpen arg =>
    have hrow : matchesRow (encode (.cmdOpen arg)) 0xFF00#16 0x0100#16 = true :=
      beq_iff_eq.2 (Laws.TableRow.cmdOpen arg hi)
    have harg : arg < 256 := of_decide_eq_true hi
    rw [decode_of_matchesRow_cmdOpen hrow, argField_encode_cmdOpen harg]
  | cmdRead => decide
  | cmdTemp => decide
  | cmdHum => decide
  | cmdClose => decide

/-- The operand of a decoded OPEN is a byte. -/
theorem wellFormed_of_decode_ok {w : CmdWord} {i : Instr} (h : decode w = .ok i) : i.WellFormed := by
  unfold decode at h
  split_ifs at h <;> cases h
  · exact decide_eq_true (argField w).isLt
  · rfl
  · rfl
  · rfl
  · rfl

/-- Settles O3: the decoder reads the operand from a byte and looks at every bit of the word. -/
theorem decodedWordReencodes : Obligations.DecodedWordReencodes :=
  fun _ _ h => ⟨wellFormed_of_decode_ok h, encode_of_decode_ok h⟩

/-- Settles O1, by running the decoder. -/
theorem writtenWordsDecode : Obligations.WrittenWordsDecode :=
  ⟨by decide, by decide, by decide, by decide, by decide, by decide, by decide, by decide, by decide, by decide⟩

/-! ### The illegal words (R74) -/

/-- The words that decode are the words of the well-formed commands. -/
theorem decode_ok_iff (w : CmdWord) (i : Instr) : decode w = .ok i ↔ i.WellFormed ∧ encode i = w :=
  ⟨decodedWordReencodes w i, fun ⟨hi, hw⟩ => hw ▸ decodeEncodeRoundTrip i hi⟩

theorem encode_cmdOpen_toNat {arg : Nat} (h : arg < 256) : (encode (.cmdOpen arg)).toNat = 256 + arg := by
  rw [encode, BitVec.toNat_append, BitVec.toNat_ofNat arg 8, Nat.mod_eq_of_lt h, ← Nat.shiftLeft_add_eq_or_of_lt h]
  rfl

/-- The legal words: `op` = 1 with any operand, or `op` in 2 to 5 with operand 0 (R71). -/
theorem exists_decode_ok_iff (w : CmdWord) :
    (∃ i, decode w = .ok i) ↔
      w.toNat / 256 = 1 ∨ (2 ≤ w.toNat / 256 ∧ w.toNat / 256 ≤ 5 ∧ w.toNat % 256 = 0) := by
  simp only [decode_ok_iff]
  constructor
  · rintro ⟨i, hi, rfl⟩
    cases i with
    | cmdOpen arg =>
      have harg : arg < 256 := of_decide_eq_true hi
      rw [encode_cmdOpen_toNat harg]
      omega
    | cmdRead => decide
    | cmdTemp => decide
    | cmdHum => decide
    | cmdClose => decide
  · rintro (hop | hop)
    · have harg : w.toNat % 256 < 256 := Nat.mod_lt _ (by decide)
      refine ⟨.cmdOpen (w.toNat % 256), decide_eq_true harg, BitVec.eq_of_toNat_eq ?_⟩
      rw [encode_cmdOpen_toNat harg]
      omega
    · have hw : w.toNat = 0x0200 ∨ w.toNat = 0x0300 ∨ w.toNat = 0x0400 ∨ w.toNat = 0x0500 := by omega
      rcases hw with hw | hw | hw | hw
      · exact ⟨.cmdRead, rfl, BitVec.eq_of_toNat_eq hw.symm⟩
      · exact ⟨.cmdTemp, rfl, BitVec.eq_of_toNat_eq hw.symm⟩
      · exact ⟨.cmdHum, rfl, BitVec.eq_of_toNat_eq hw.symm⟩
      · exact ⟨.cmdClose, rfl, BitVec.eq_of_toNat_eq hw.symm⟩

theorem exists_decode_error_iff (w : CmdWord) : (∃ e, decode w = .error e) ↔ ¬∃ i, decode w = .ok i := by
  cases decode w <;> simp

/-- R74, R228: an accepted illegal word is answered IllegalCommand. -/
theorem step_of_decode_error {s : State} {e : DecodeReject} (hr : s.input.rst = false) (hf : s.fsm.resting = true)
    (hv : s.input.cmdValid = true) (hd : decode s.input.cmd = .error e) :
    step s = .next (s.nextCycle.raiseError .illegalCommand) := by
  simp [step_of_resting hr hf, commandStep, hv, hd]

/-- Settles O4: the illegal words are those that no command has, and the answer to one is a response alone. -/
theorem illegalWordsAnswered : Obligations.IllegalWordsAnswered := by
  refine ⟨fun w => ?_, fun s e hr hv hf hd => step_of_decode_error hr ((Fsm.resting_iff _).2 hf) hv hd⟩
  rw [exists_decode_error_iff, exists_decode_ok_iff]
  omega

/-! ### The command port (R72) -/

/-- Settles O5: at rest the step is that of the command port, which runs the decoded command. -/
theorem stepRunsAcceptedCommand : Obligations.StepRunsAcceptedCommand :=
  fun _ _ hr hv hf hd => step_of_decode_ok hr ((Fsm.resting_iff _).2 hf) hv hd

theorem decode_tableWord_of_decodeTableWord {nbits w : Nat} {i : Instr} (h : decodeTableWord nbits w = some i) :
    decode (tableWord nbits w) = .ok i := by
  unfold decodeTableWord at h
  split at h
  · next hd => rw [hd, Option.some.inj h]
  · cases h

/-- Settles O6: the fetched word is presented without reset, to a block at rest. -/
theorem fetchedWordRuns : Obligations.FetchedWordRuns := by
  intro s nbits w i h
  have hready : (s.withFetchWord nbits w).fsm.resting = true := s.withCommand_ready _
  refine ⟨step_of_decode_ok rfl hready rfl (decode_tableWord_of_decodeTableWord h), fun hf => ?_⟩
  exact if_pos ((Fsm.resting_iff s.fsm).2 hf)

/-! ### When commands are answered (R77, R78) -/

theorem State.resting_of_accepts {s : State} (h : s.accepts = true) : s.fsm.resting = true := by
  simp only [State.accepts, Bool.and_eq_true] at h
  exact h.2

theorem State.accepts_eq_cmdValid {s : State} (hr : s.input.rst = false) (hf : s.fsm.resting = true) :
    s.accepts = s.input.cmdValid := by
  simp [State.accepts, State.cmdReady, hr, hf]

theorem State.not_accepts_of_not_resting {s : State} (hf : s.fsm.resting = false) : s.accepts = false := by
  simp [State.accepts, State.cmdReady, hf]

/-- A state of a pass under way is none of the others. -/
theorem Fsm.of_sampling {f : Fsm} (hf : f.sampling = true) : f.resting = false ∧ f ≠ .frameReady ∧ f ≠ .failed := by
  cases f <;> simp_all [Fsm.sampling, Fsm.resting]

/-- A READ accepted in Idle, the one command that is not answered in the next cycle (R78). -/
def State.StartsRead (s : State) : Prop := s.fsm = .idle ∧ s.input.cmd = 0x0200#16

/-- What a step without reset does about responses: one constructor per way in which the number of commands that are not
answered yet can change or stay. -/
inductive ResponseCase (s t : State) : Prop where
  /-- A command is accepted and answered. -/
  | answered (ha : s.accepts = true) (hread : ¬s.StartsRead) (hv : t.rspValid = true) (hf : t.fsm.resting = true)
  /-- A READ is accepted and its pass starts. -/
  | started (ha : s.accepts = true) (hread : s.StartsRead) (hv : t.rspValid = false) (hf : t.fsm.sampling = true)
  /-- The pass of a READ goes on. -/
  | goesOn (hs : s.fsm.sampling = true) (hv : t.rspValid = false) (hf : t.fsm.sampling = true)
  /-- The pass of a READ ends and answers it. -/
  | passEnds (hs : s.fsm.sampling = true) (ht : t.Answered)
  /-- No command is accepted or under way. -/
  | nothing (ha : s.accepts = false) (hs : s.fsm.sampling = false) (hv : t.rspValid = false)
      (hf : t.fsm.resting = true)

theorem read_word_iff (w : CmdWord) : w = 0x0200#16 ↔ decode w = .ok .cmdRead :=
  (decode_eq_ok_iff (by decide) w).symm

/-- A command accepted at rest is answered in the next cycle, unless it starts a pass. -/
theorem exec_answers_at_once {i : Instr} {s t : State} (hf : s.fsm.resting = true)
    (hread : ¬(s.fsm = .idle ∧ i = .cmdRead)) (h : exec i s = .next t) :
    t.rspValid = true ∧ t.fsm.resting = true := by
  cases exec_cases h with
  | answer => exact ⟨rfl, hf⟩
  | initError => exact ⟨rfl, hf⟩
  | opened => exact ⟨rfl, rfl⟩
  | started hopen hi => exact absurd ⟨((Fsm.resting_iff _).1 hf).resolve_left hopen, hi⟩ hread
  | closed => exact ⟨rfl, rfl⟩

theorem commandStep_responseCase {s t : State} (hr : s.input.rst = false) (hf : s.fsm.resting = true)
    (h : commandStep s = .next t) : ResponseCase s t := by
  have ha : s.accepts = s.input.cmdValid := State.accepts_eq_cmdValid hr hf
  rcases commandStep_cases s with ⟨hv, e⟩ | ⟨hv, i, hd, e⟩ | ⟨hv, _, hd, e⟩
  · cases e.symm.trans h
    exact .nothing (ha.trans hv) (Fsm.not_reading_of_resting hf).1 rfl hf
  · by_cases hread : s.StartsRead
    · have hstep := step_of_read_idle hr hread.1 hv hread.2
      cases ((step_of_resting hr hf).symm.trans hstep).symm.trans h
      exact .started (ha.trans hv) hread rfl rfl
    · have hnot : ¬(s.fsm = .idle ∧ i = .cmdRead) := fun ⟨hidle, hi⟩ =>
        hread ⟨hidle, (read_word_iff _).2 (hi ▸ hd)⟩
      obtain ⟨hrsp, hrest⟩ := exec_answers_at_once hf hnot (e.symm.trans h)
      exact .answered (ha.trans hv) hread hrsp hrest
  · cases e.symm.trans h
    have hread : ¬s.StartsRead := fun hn => by simp [(read_word_iff _).1 hn.2] at hd
    exact .answered (ha.trans hv) hread rfl hf

theorem startLowStep_responseCase {s : State} (hf : s.fsm = .startLow) : ResponseCase s (startLowStep s) := by
  have hs : s.fsm.sampling = true := by rw [hf]; rfl
  rcases startLowStep_cases s with ⟨_, e⟩ | ⟨_, _, e⟩ | ⟨_, _, e⟩ <;> rw [e]
  · exact .goesOn hs rfl hs
  · exact .goesOn hs rfl hs
  · exact .goesOn hs rfl rfl

theorem releaseHighStep_responseCase {s : State} (hf : s.fsm = .releaseHigh) : ResponseCase s (releaseHighStep s) := by
  have hs : s.fsm.sampling = true := by rw [hf]; rfl
  rcases releaseHighStep_cases s with ⟨_, e⟩ | ⟨_, _, e⟩ | ⟨_, _, e⟩ <;> rw [e]
  · exact .goesOn hs rfl hs
  · exact .goesOn hs rfl hs
  · exact .goesOn hs rfl rfl

theorem pollStep_responseCase {s : State} (hf : s.fsm = .poll) : ResponseCase s (pollStep s) := by
  have hs : s.fsm.sampling = true := by rw [hf]; rfl
  rcases pollStep_cases s with ⟨_, e⟩ | ⟨_, _, _, e⟩ | ⟨_, _, _, e⟩ | ⟨_, _, _, e⟩ | ⟨_, _, _, e⟩ <;> rw [e]
  · exact .goesOn hs rfl hs
  · exact .goesOn hs rfl hs
  · exact .passEnds hs (State.endPass_answered _ _)
  · exact .goesOn hs rfl hs
  · exact .passEnds hs (State.endPass_answered _ _)

theorem returnStep_responseCase {s : State} (hf : s.fsm = .frameReady ∨ s.fsm = .failed) :
    ResponseCase s (returnStep s) := by
  have hrest : s.fsm.resting = false := by rcases hf with hf | hf <;> rw [hf] <;> rfl
  have hs : s.fsm.sampling = false := by rcases hf with hf | hf <;> rw [hf] <;> rfl
  exact .nothing (State.not_accepts_of_not_resting hrest) hs rfl rfl

/-- Every step without reset, by the rows of the state machine. -/
theorem step_responseCase {s t : State} (hr : s.input.rst = false) (h : step s = .next t) : ResponseCase s t := by
  rcases step_cases s with ⟨h1, _⟩ | ⟨_, hf, e⟩ | ⟨_, hf, e⟩ | ⟨_, hf, e⟩ | ⟨_, hf, e⟩ | ⟨_, hf, e⟩
  · simp [hr] at h1
  · exact commandStep_responseCase hr hf (e.symm.trans h)
  · cases e.symm.trans h
    exact startLowStep_responseCase hf
  · cases e.symm.trans h
    exact releaseHighStep_responseCase hf
  · cases e.symm.trans h
    exact pollStep_responseCase hf
  · cases e.symm.trans h
    exact returnStep_responseCase hf

theorem State.Answered.not_sampling {t : State} (h : t.Answered) : t.fsm.sampling = false := by
  rcases h.1 with hf | hf <;> rw [hf] <;> rfl

/-- Settles O12, by what a step does about responses. -/
theorem oneResponsePerCommand : Obligations.OneResponsePerCommand := by
  intro s t hr h
  cases step_responseCase hr h with
  | answered ha _ hv hf =>
    have hs := (Fsm.not_reading_of_resting (State.resting_of_accepts ha)).1
    simp [ha, hs, hv, (Fsm.not_reading_of_resting hf).1]
  | started ha _ hv hf =>
    have hs := (Fsm.not_reading_of_resting (State.resting_of_accepts ha)).1
    simp [ha, hs, hv, hf]
  | goesOn hs hv hf => simp [State.not_accepts_of_not_resting (Fsm.of_sampling hs).1, hs, hv, hf]
  | passEnds hs ht =>
    simp [State.not_accepts_of_not_resting (Fsm.of_sampling hs).1, hs, ht.2, ht.not_sampling]
  | nothing ha hs hv hf => simp [ha, hs, hv, (Fsm.not_reading_of_resting hf).1]

/-- Settles O13, by what a step does about responses. -/
theorem responseTiming : Obligations.ResponseTiming := by
  intro s t hr h
  change _ ↔ (s.accepts = true ∧ ¬s.StartsRead) ∨ _
  cases step_responseCase hr h with
  | answered ha hread hv _ => simp [ha, hread, hv]
  | started _ hread hv hf => simp [hread, hv, Fsm.of_sampling hf]
  | goesOn hs hv hf => simp [State.not_accepts_of_not_resting (Fsm.of_sampling hs).1, hv, Fsm.of_sampling hf]
  | passEnds _ ht => simp [ht.1, ht.2]
  | nothing ha _ hv hf => simp [ha, hv, Fsm.not_reading_of_resting hf]

/-! ### The variant outside the resting states (R83) -/

/-- `s` with another variant. -/
def State.withVariant (s : State) (v : Variant) : State := { s with variant := v }

@[simp] theorem State.withVariant_fsm (s : State) (v : Variant) : (s.withVariant v).fsm = s.fsm := rfl
@[simp] theorem State.withVariant_input (s : State) (v : Variant) : (s.withVariant v).input = s.input := rfl

section
variable (s : State) (v : Variant)

theorem startLowStep_withVariant : startLowStep (s.withVariant v) = (startLowStep s).withVariant v := by
  simp only [startLowStep, apply_ite (State.withVariant · v)]
  rfl

theorem releaseHighStep_withVariant : releaseHighStep (s.withVariant v) = (releaseHighStep s).withVariant v := by
  simp only [releaseHighStep, apply_ite (State.withVariant · v)]
  rfl

theorem State.endPass_withVariant (t : State) :
    (s.withVariant v).endPass (t.withVariant v) = (s.endPass t).withVariant v := by
  rw [State.endPass_eq, State.endPass_eq]
  rfl

theorem pollSame_withVariant : pollSame (s.withVariant v) = (pollSame s).withVariant v := by
  rw [pollSame_eq, pollSame_eq, apply_ite (State.withVariant · v), ← State.endPass_withVariant]
  rfl

theorem pollChanged_withVariant : pollChanged (s.withVariant v) = (pollChanged s).withVariant v := by
  rw [pollChanged_eq, pollChanged_eq, apply_ite (State.withVariant · v), ← State.endPass_withVariant]
  rfl

theorem pollStep_withVariant : pollStep (s.withVariant v) = (pollStep s).withVariant v := by
  unfold pollStep
  rw [pollSame_withVariant, pollChanged_withVariant, apply_ite (State.withVariant · v),
    apply_ite (State.withVariant · v)]
  rfl

end

/-- Settles O51: each row of the state machine outside Closed and Idle commutes with a change of the variant. -/
theorem receiverIgnoresVariant : Obligations.ReceiverIgnoresVariant := by
  intro s t v hclosed hidle hr h
  change step (s.withVariant v) = .next (t.withVariant v)
  rcases step_cases s with ⟨h1, _⟩ | ⟨_, hf, _⟩ | ⟨_, hf, e⟩ | ⟨_, hf, e⟩ | ⟨_, hf, e⟩ | ⟨_, hf, e⟩
  · simp [hr] at h1
  · exact ((Fsm.resting_iff _).1 hf).elim (absurd · hclosed) (absurd · hidle)
  · cases e.symm.trans h
    rw [step_of_startLow (s := s.withVariant v) hr hf, startLowStep_withVariant]
  · cases e.symm.trans h
    rw [step_of_releaseHigh (s := s.withVariant v) hr hf, releaseHighStep_withVariant]
  · cases e.symm.trans h
    rw [step_of_poll (s := s.withVariant v) hr hf, pollStep_withVariant]
  · cases e.symm.trans h
    exact step_of_answered hr hf

end Sys2Proof.Machine
end

section
/-! PROOFS of the family `40_signal_sampler`: the start of a pass (O17), the inputs its states read (O8), the handshake
on the line and as PinAccess calls (O25, O29), one poll (O26, O27), how long a pass takes (O35), and the pass over the
standard test waveform (O33). -/

namespace Sys2Proof.Machine

/-! ### READ as a command (R195 to R197) -/

/-- Settles O17, by the two cases of READ. -/
theorem readInEveryState : Obligations.ReadInEveryState := by
  intro s
  refine ⟨fun hf => ?_, fun hf => ?_⟩
  · exact ((execRead_cases s).resolve_left fun h => by simp [hf] at h).2
  · exact ((execRead_cases s).resolve_right fun h => h.1 hf).2

/-! ### What a pass reads (R102) -/

theorem startLowStep_congr {s t : State} (hn : s.nextCycle = t.nextCycle) (hu : s.input.usEn = t.input.usEn) :
    startLowStep s = startLowStep t := by
  have hdly : s.dly = t.dly := (congrArg State.dly hn :)
  simp only [startLowStep, hn, hu, hdly]

theorem releaseHighStep_congr {s t : State} (hn : s.nextCycle = t.nextCycle) (hu : s.input.usEn = t.input.usEn) :
    releaseHighStep s = releaseHighStep t := by
  have hdly : s.dly = t.dly := (congrArg State.dly hn :)
  simp only [releaseHighStep, hn, hu, hdly]

theorem pollStep_congr {s t : State} (hn : s.nextCycle = t.nextCycle) (hp : s.input.pollEn = t.input.pollEn)
    (hl : s.input.pollEn = true → s.input.lineIn = t.input.lineIn) : pollStep s = pollStep t := by
  have hbuf : s.buf = t.buf := (congrArg State.buf hn :)
  have hbitcnt : s.bitcnt = t.bitcnt := (congrArg State.bitcnt hn :)
  have hphase : s.phase = t.phase := (congrArg State.phase hn :)
  have hcnt : s.cnt = t.cnt := (congrArg State.cnt hn :)
  have hlast : s.last = t.last := (congrArg State.last hn :)
  unfold pollStep
  rw [← hp]
  split
  · next hen =>
    simp only [hl hen, hlast, pollSame, pollChanged, State.endPass, State.assembly, hn, hbuf, hbitcnt, hphase, hcnt]
  · exact hn

theorem startLowStep_of_no_pulse {s : State} (hu : s.input.usEn = false) : startLowStep s = s.nextCycle := by
  simp [startLowStep, hu]

theorem releaseHighStep_of_no_pulse {s : State} (hu : s.input.usEn = false) : releaseHighStep s = s.nextCycle := by
  simp [releaseHighStep, hu]

theorem pollStep_of_no_poll {s : State} (hp : s.input.pollEn = false) : pollStep s = s.nextCycle := by
  simp [pollStep, hp]

/-- A handshake step reads `us_en` and no other input. -/
theorem step_congr_of_handshake {s t : State} (hf : s.fsm = .startLow ∨ s.fsm = .releaseHigh)
    (hs : s.input.rst = false) (ht : t.input.rst = false) (hn : s.nextCycle = t.nextCycle)
    (hu : s.input.usEn = t.input.usEn) : step s = step t := by
  have hfsm : s.fsm = t.fsm := (congrArg State.fsm hn :)
  rcases hf with hf | hf
  · rw [step_of_startLow hs hf, step_of_startLow ht (hfsm ▸ hf), startLowStep_congr hn hu]
  · rw [step_of_releaseHigh hs hf, step_of_releaseHigh ht (hfsm ▸ hf), releaseHighStep_congr hn hu]

/-- Poll reads `poll_en`, and `line_in` in a poll. -/
theorem step_congr_of_poll {s t : State} (hf : s.fsm = .poll) (hs : s.input.rst = false) (ht : t.input.rst = false)
    (hn : s.nextCycle = t.nextCycle) (hp : s.input.pollEn = t.input.pollEn)
    (hl : s.input.pollEn = true → s.input.lineIn = t.input.lineIn) : step s = step t := by
  have hfsm : s.fsm = t.fsm := (congrArg State.fsm hn :)
  rw [step_of_poll hs hf, step_of_poll ht (hfsm ▸ hf), pollStep_congr hn hp hl]

/-- Settles O8: each state of a pass reads its enable, and Poll the line in a poll. -/
theorem passReadsOnlyItsInputs : Obligations.PassReadsOnlyItsInputs := by
  refine ⟨fun s i j r hf hi hj hu => step_congr_of_handshake hf hi hj rfl hu,
    fun s i j r hf hi hj hp hl => step_congr_of_poll hf hi hj rfl hp hl, fun s hr hquiet => ?_⟩
  rcases hquiet with ⟨hf | hf, hu⟩ | ⟨hf, hp⟩
  · exact (step_of_startLow hr hf).trans (congrArg _ (startLowStep_of_no_pulse hu))
  · exact (step_of_releaseHigh hr hf).trans (congrArg _ (releaseHighStep_of_no_pulse hu))
  · exact (step_of_poll hr hf).trans (congrArg _ (pollStep_of_no_poll hp))

/-! ### The handshake (R103 to R108) -/

/-- A step always answers, and so does a run. -/
theorem run_answers_next (n : Nat) (s : State) : ∃ t, run n s = .next t := by
  induction n generalizing s with
  | zero => exact ⟨s, rfl⟩
  | succ n ih =>
    obtain ⟨t, hstep, _⟩ := stepAlwaysAnswersNext s
    rw [run_succ_of_next hstep]
    exact ih t

theorem trace_one {α : Type} (f : State → List α) (s : State) : trace f 1 s = f s := by
  obtain ⟨t, hstep, _⟩ := stepAlwaysAnswersNext s
  rw [trace_succ_of_next f hstep, trace_zero, List.append_nil]

theorem run_one (s : State) : run 1 s = step s := by
  obtain ⟨t, hstep, _⟩ := stepAlwaysAnswersNext s
  rw [run_succ_of_next hstep, run_zero, hstep]

theorem last_pulse_of_map {hs : List Inputs} (h : (hs.getLast?.map fun i => i.usEn) = some true) :
    ∀ i ∈ hs.getLast?, i.usEn = true :=
  fun i hi => by simpa [Option.mem_def.1 hi] using h

/-- What the handshake keeps once a READ has started it: the line is driven, Low in StartLow, and ReleaseHigh waits for
at most its 50 pulses. -/
structure State.Driving (s : State) : Prop extends s.Handshaking where
  line_driven : s.lineOe = true
  start_low : s.fsm = .startLow → s.lineOut = .low
  release_dly : s.fsm = .releaseHigh → s.dly.toNat ≤ 50

/-- The PinAccess calls that a handshake stands for from this state to its end (R108). -/
def State.callsToCome (s : State) : List PinCall :=
  match s.fsm with
  | .startLow => [.write .high, .delayMicros 50, .setDirection false, .setPull 1#2]
  | .releaseHigh => [.setDirection false, .setPull 1#2]
  | _ => []

@[simp] theorem State.listening_callsToCome (s : State) (n : Nat) (r : List Inputs) :
    (s.listening n r).callsToCome = [] := rfl

theorem State.startPass_driving (s : State) : s.startPass.Driving where
  toHandshaking := s.startPass_handshaking
  line_driven := rfl
  start_low _ := rfl
  release_dly := nofun

section
variable {s t : State}

/-- StartLow waits for the 50 pulses of ReleaseHigh after its own. -/
theorem State.Driving.startLow_iff (h : s.Driving) : s.fsm = .startLow ↔ 50 < s.pulsesLeft := by
  rcases (Fsm.handshake_iff _).1 h.handshake with hf | hf
  · have hleft : s.pulsesLeft = s.dly.toNat + 50 := by simp [State.pulsesLeft, hf, Config.tReleaseUs]
    have := h.dly_pos
    exact iff_of_true hf (by omega)
  · have hleft : s.pulsesLeft = s.dly.toNat := by simp [State.pulsesLeft, hf]
    have := h.release_dly hf
    exact iff_of_false (by simp [hf]) (by omega)

/-- A step that stays in the handshake keeps the line driven as its state asks. -/
theorem State.Driving.of_step (h : s.Driving) (hr : s.input.rst = false) (hs : step s = .next t)
    (ht : t.Handshaking) : t.Driving := by
  obtain ⟨hh, hoe, hlow, hdly⟩ := h
  rcases (Fsm.handshake_iff _).1 hh.handshake with hf | hf
  · cases (step_of_startLow hr hf).symm.trans hs
    rcases startLowStep_cases s with ⟨_, e⟩ | ⟨_, _, e⟩ | ⟨_, _, e⟩ <;> rw [e] at ht ⊢
    · exact ⟨ht, hoe, hlow, hdly⟩
    · exact ⟨ht, hoe, hlow, fun hn => by simp [hf] at hn⟩
    · exact ⟨ht, hoe, nofun, fun _ => by simp⟩
  · cases (step_of_releaseHigh hr hf).symm.trans hs
    rcases releaseHighStep_cases s with ⟨_, e⟩ | ⟨_, hd, e⟩ | ⟨_, _, e⟩ <;> rw [e] at ht ⊢
    · exact ⟨ht, hoe, hlow, hdly⟩
    · have hle := hdly hf
      exact ⟨ht, hoe, hlow, fun _ => by bv_omega⟩
    · exact absurd ht.handshake (by simp [Fsm.handshake])

/-- The calls of a handshake step are the first of those to come (R108). -/
theorem pinCalls_append_callsToCome (hf : s.fsm.handshake = true) (hr : s.input.rst = false) (hs : step s = .next t) :
    s.pinCalls ++ t.callsToCome = s.callsToCome := by
  rcases (Fsm.handshake_iff _).1 hf with hf | hf
  · cases (step_of_startLow hr hf).symm.trans hs
    rcases startLowStep_cases s with ⟨hu, e⟩ | ⟨hu, hd, e⟩ | ⟨hu, hd, e⟩ <;> rw [e]
    · simp [State.pinCalls, State.callsToCome, hr, hf, hu]
    · simp [State.pinCalls, State.callsToCome, hr, hf, hd]
    · simp [State.pinCalls, State.callsToCome, hr, hf, hu, hd, Config.tReleaseUs]
  · cases (step_of_releaseHigh hr hf).symm.trans hs
    rcases releaseHighStep_cases s with ⟨hu, e⟩ | ⟨hu, hd, e⟩ | ⟨hu, hd, e⟩ <;> rw [e]
    · simp [State.pinCalls, State.callsToCome, hr, hf, hu]
    · simp [State.pinCalls, State.callsToCome, hr, hf, hd]
    · simp [State.pinCalls, State.callsToCome, hr, hf, hu, hd, pullUp]

/-- Fewer pulses than a handshake waits for leave it under way, with as many fewer to come and with the calls made that
no longer are. -/
theorem State.Driving.run_drives {s : State} {hs r : List Inputs} (h : s.Driving) (hi : s.inputs = hs ++ r)
    (hr : ∀ i ∈ hs, i.rst = false) (hc : hs.countP (fun i => i.usEn) < s.pulsesLeft) :
    ∃ t, run hs.length s = .next t ∧ t.Driving ∧ t.inputs = r ∧
      t.pulsesLeft + hs.countP (fun i => i.usEn) = s.pulsesLeft ∧
      trace State.pinCalls hs.length s ++ t.callsToCome = s.callsToCome := by
  induction hs generalizing s with
  | nil => exact ⟨s, rfl, h, hi, rfl, rfl⟩
  | cons i hs ih =>
    obtain ⟨hri, hrs⟩ := List.forall_mem_cons.1 hr
    have hrst : s.input.rst = false := State.input_of_cons hi ▸ hri
    rw [countP_cons_toNat] at hc ⊢
    rcases h.step_cases hi hri with ⟨hu, hone, _⟩ | ⟨u, hstep, hu⟩
    · rw [hu, Bool.toNat_true] at hc
      omega
    · have hleft := hu.pulsesLeft
      obtain ⟨t, hrun, hdrive, hinputs, hpulses, hcalls⟩ :=
        ih (h.of_step hrst hstep hu.handshaking) hu.inputs hrs (by omega)
      refine ⟨t, by rw [List.length_cons, run_succ_of_next hstep, hrun], hdrive, hinputs, by omega, ?_⟩
      rw [List.length_cons, trace_succ_of_next _ hstep, List.append_assoc, hcalls]
      exact pinCalls_append_callsToCome h.handshake hrst hstep

/-- R108: the pulses a handshake waits for, the last of them in the last cycle, make all of its calls. -/
theorem State.Driving.trace_pinCalls {s : State} {hs r : List Inputs} (h : s.Driving) (hi : s.inputs = hs ++ r)
    (hr : ∀ i ∈ hs, i.rst = false) (hc : hs.countP (fun i => i.usEn) = s.pulsesLeft)
    (hl : ∀ i ∈ hs.getLast?, i.usEn = true) : trace State.pinCalls hs.length s = s.callsToCome := by
  rcases List.eq_nil_or_concat' hs with rfl | ⟨ks, i, rfl⟩
  · have := h.pulsesLeft_pos
    rw [List.countP_nil] at hc
    omega
  obtain ⟨hrk, hri⟩ : (∀ j ∈ ks, j.rst = false) ∧ i.rst = false := by simpa [or_imp, forall_and] using hr
  have hu : i.usEn = true := by simpa using hl
  rw [List.countP_append, List.countP_singleton, if_pos hu] at hc
  rw [List.append_assoc] at hi
  obtain ⟨t, hrun, ht, hinputs, hpulses, hcalls⟩ := h.run_drives hi hrk (by omega)
  have hone : t.pulsesLeft = 1 := by omega
  have hend : step t = .next (t.listening 1 r) := by
    rw [← run_one]
    exact ht.run_listening (hs := [i]) hinputs (by simpa using hri) (by simp [hu, hone]) (by simpa using hu)
  have hlast : t.pinCalls = t.callsToCome := by
    simpa using pinCalls_append_callsToCome ht.handshake (State.input_of_cons hinputs ▸ hri) hend
  rw [List.length_append, List.length_singleton, trace_add _ hrun, trace_one, hlast, hcalls]

/-- R104, R106: the line over any run that begins with 20050 pulses to come: Low, High from 20000 pulses on, let go with
the last of them. -/
theorem State.Driving.run_waveform {s : State} {ins r : List Inputs} (h : s.Driving) (hleft : s.pulsesLeft = 20050)
    (hi : s.inputs = ins ++ r) (hr : ∀ i ∈ ins, i.rst = false) :
    ∃ t, run ins.length s = .next t ∧
      (ins.countP (fun i => i.usEn) < 20000 → t.fsm = .startLow ∧ t.lineOe = true ∧ t.lineOut = .low) ∧
      (20000 ≤ ins.countP (fun i => i.usEn) → ins.countP (fun i => i.usEn) < 20050 →
        t.fsm = .releaseHigh ∧ t.lineOe = true ∧ t.lineOut = .high) ∧
      (ins.countP (fun i => i.usEn) = 20050 → (ins.getLast?.map fun i => i.usEn) = some true →
        t.fsm = .poll ∧ t.lineOe = false ∧ t.lineOut = .high ∧ t.pull = 1#2) := by
  obtain ⟨t, hrun⟩ := run_answers_next ins.length s
  have hdrives (hc : ins.countP (fun i => i.usEn) < 20050) :
      t.Driving ∧ t.pulsesLeft + ins.countP (fun i => i.usEn) = 20050 := by
    obtain ⟨u, hu, hdrive, _, hpulses, _⟩ := h.run_drives hi hr (hleft ▸ hc)
    cases hrun.symm.trans hu
    exact ⟨hdrive, hpulses.trans hleft⟩
  refine ⟨t, hrun, fun hc => ?_, fun hc hc' => ?_, fun hc hlast => ?_⟩
  · obtain ⟨hdrive, hpulses⟩ := hdrives (by omega)
    have hstart := hdrive.startLow_iff.2 (by omega)
    exact ⟨hstart, hdrive.line_driven, hdrive.start_low hstart⟩
  · obtain ⟨hdrive, hpulses⟩ := hdrives hc'
    have hrelease : t.fsm = .releaseHigh :=
      ((Fsm.handshake_iff _).1 hdrive.handshake).resolve_left fun hn => by
        have := hdrive.startLow_iff.1 hn
        omega
    exact ⟨hrelease, hdrive.line_driven, hdrive.line_high hrelease⟩
  · cases hrun.symm.trans (h.run_listening hi hr (hc.trans hleft.symm) (last_pulse_of_map hlast))
    exact ⟨rfl, rfl, rfl, rfl⟩

end

/-- Settles O25: the cases of the two steps, and the pulses that a run leaves to wait for. -/
theorem handshakeWaveform : Obligations.HandshakeWaveform := by
  refine ⟨fun s hf hr hu => ?_, fun s hf hr hu => ?_, fun s ins r hf hdly hoe hlow hr => ?_⟩
  · rw [step_of_startLow hr hf]
    rcases startLowStep_cases s with ⟨hn, _⟩ | ⟨_, hd, e⟩ | ⟨_, hd, e⟩
    · simp [hu] at hn
    · exact ⟨fun _ => congrArg _ e, fun hn => absurd hd hn⟩
    · exact ⟨fun hn => absurd hd hn.not_ge, fun _ => congrArg _ e⟩
  · rw [step_of_releaseHigh hr hf]
    rcases releaseHighStep_cases s with ⟨hn, _⟩ | ⟨_, hd, e⟩ | ⟨_, hd, e⟩
    · simp [hu] at hn
    · exact ⟨fun _ => congrArg _ e, fun hn => absurd hd hn⟩
    · exact ⟨fun hn => absurd hd hn.not_ge, fun _ => congrArg _ e⟩
  · refine State.Driving.run_waveform (s := { s with inputs := ins ++ r }) ?_ ?_ rfl hr
    · exact ⟨⟨by simp [hf, Fsm.handshake], by simp [hdly], by simp [hf]⟩, hoe, fun _ => hlow, by simp [hf]⟩
    · simp [State.pulsesLeft, hf, hdly, Config.tReleaseUs]

/-- Settles O29: the READ makes the first three calls and the handshake it starts the others. -/
theorem handshakePinCalls : Obligations.HandshakePinCalls := by
  intro s c hs r hf hcr hcv hcw hr hcount hlast
  have hread := step_of_read_idle (s := { s with inputs := c :: (hs ++ r) }) hcr hf hcv hcw
  have hcalls : State.pinCalls { s with inputs := c :: (hs ++ r) } =
      [.setDirection true, .write .low, .delayMicros 20000] := by
    have hd : decode c.cmd = .ok .cmdRead := (read_word_iff _).1 hcw
    simp [State.pinCalls, hcr, hf, hcv, hd, Instr.pinCalls, Config.tStartUs]
  have hdrive := State.startPass_driving (State.nextCycle { s with inputs := c :: (hs ++ r) })
  rw [Nat.add_comm, trace_succ_of_next _ hread, hcalls, hdrive.trace_pinCalls rfl hr hcount (last_pulse_of_map hlast)]
  rfl

/-! ### One poll (R109 to R111) -/

section
variable {s : State}

theorem step_of_unchanged_poll (hf : s.fsm = .poll) (hr : s.input.rst = false) (hp : s.input.pollEn = true)
    (hl : s.input.lineIn = s.last) : step s = .next (pollSame s) := by
  simp [step_of_poll hr hf, pollStep, hp, hl]

theorem step_of_changed_poll (hf : s.fsm = .poll) (hr : s.input.rst = false) (hp : s.input.pollEn = true)
    (hl : s.input.lineIn ≠ s.last) : step s = .next (pollChanged s) := by
  simp [step_of_poll hr hf, pollStep, hp, hl]

/-- `s` after `n` polls that only count, before the inputs `r` (R110). -/
def State.countedPolls (s : State) (n : Nat) (r : List Inputs) : State :=
  { s with
    inputs := r
    cycle := s.cycle + n
    paInit := false
    paShutdown := false
    rspValid := false
    cnt := s.cnt + BitVec.ofNat 8 n }

theorem State.countedPolls_add (s : State) (m n : Nat) (q r : List Inputs) :
    (s.countedPolls m q).countedPolls n r = s.countedPolls (m + n) r := by
  simp [State.countedPolls, Nat.add_assoc, BitVec.add_assoc, BitVec.ofNat_add]

/-- A cycle that polls the line without reset and samples the level `l`. -/
def Inputs.PollsLevel (i : Inputs) (l : Level) : Prop := i.rst = false ∧ i.pollEn = true ∧ i.lineIn = l

theorem step_countedPolls {i : Inputs} {r : List Inputs} (hf : s.fsm = .poll) (hi : s.inputs = i :: r)
    (hp : i.PollsLevel s.last) (hc : s.cnt.toNat < 254) : step s = .next (s.countedPolls 1 r) := by
  obtain ⟨hr, hen, hl⟩ := State.input_of_cons hi ▸ hp
  have hcount : { s.nextCycle with cnt := s.cnt + 1#8 } = s.countedPolls 1 r := by
    simp [State.countedPolls, State.nextCycle, hi]
  rw [step_of_unchanged_poll hf hr hen hl, pollSame_eq, ← hcount]
  exact congrArg _ (if_pos hc)

/-- R110: the polls at an unchanged level only count while the count stays at most 254. -/
theorem run_countedPolls {i : Inputs} {ins r : List Inputs} (hf : s.fsm = .poll) (hi : s.inputs = i :: (ins ++ r))
    (hp : i.PollsLevel s.last) (hps : ∀ j ∈ ins, j.PollsLevel s.last) (hc : s.cnt.toNat + ins.length < 254) :
    run (ins.length + 1) s = .next (s.countedPolls (ins.length + 1) r) := by
  induction ins generalizing s i with
  | nil => exact (run_one s).trans (step_countedPolls hf hi hp hc)
  | cons j ins ih =>
    obtain ⟨hj, hrest⟩ := List.forall_mem_cons.1 hps
    rw [List.length_cons] at hc
    have hcnt : (s.countedPolls 1 (j :: (ins ++ r))).cnt.toNat = s.cnt.toNat + 1 := by
      simp only [State.countedPolls]
      bv_omega
    rw [List.cons_append] at hi
    rw [run_succ_of_next (step_countedPolls hf hi hp (by omega)), List.length_cons,
      ih (s := s.countedPolls 1 (j :: (ins ++ r))) hf rfl hj hrest (by omega), State.countedPolls_add, Nat.add_comm 1]

end

/-- Settles O26, by the two branches of a poll at an unchanged level and the run of those that count. -/
theorem pollUnchangedLevel : Obligations.PollUnchangedLevel := by
  refine ⟨fun s hf hr hp hl => ?_, fun s ins r hf hins hne hc => ?_⟩
  · rw [step_of_unchanged_poll hf hr hp hl, pollSame_eq]
    refine ⟨fun hc => ⟨?_, congrArg _ (if_pos hc)⟩, fun hc => ⟨?_, ?_⟩⟩
    · simp [State.emitted, hf, hr, hp, hl, hc]
    · simp [State.emitted, hf, hr, hp, hl, hc]
    · exact congrArg _ ((if_neg hc).trans (State.endPass_eq _ _))
  · cases ins with
    | nil => exact absurd rfl hne
    | cons i ins =>
      obtain ⟨hi, hrest⟩ := List.forall_mem_cons.1 hins
      rw [List.length_cons] at hc
      exact run_countedPolls (s := { s with inputs := i :: ins ++ r }) hf rfl hi hrest (by simp only; omega)

/-- Settles O27, by the two branches of a poll at a changed level. -/
theorem pollChangedLevel : Obligations.PollChangedLevel := by
  intro s hf hr hp hl
  rw [step_of_changed_poll hf hr hp hl, pollChanged_eq]
  refine ⟨by simp [State.emitted, hf, hr, hp, hl], fun hne => congrArg _ (if_neg hne), fun heq => ?_⟩
  have hphase : s.phase + 1#7 = 85#7 := by bv_omega
  rw [if_pos heq, State.endPass_eq, afterPhase, hphase]
  rfl

/-! ### `sample_pass` (R116), one sample at a time -/

/-- The variables of `sample_pass` after `n` more samples of the level `last`, which only count. -/
def PassState.counted (p : PassState) (n : Nat) : PassState :=
  { p with cnt := p.cnt + BitVec.ofNat 8 n, polls := p.polls + n }

/-- The frame under assembly once the present phase has ended with the count it has now. -/
def PassState.decoded (p : PassState) : Assembly := p.asm.decodePhase p.phase p.cnt

/-- The variables of `sample_pass` after a sample `w` that ends a phase before the last. -/
def PassState.nextPhase (p : PassState) (w : Level) : PassState :=
  ⟨p.decoded, p.phase + 1#7, 0#8, w, p.trs ++ [⟨p.last, p.cnt, false⟩], p.polls + 1⟩

/-- What `sample_pass` returns when the present phase saturates. -/
def PassState.saturated (p : PassState) : PassResult :=
  ⟨p.trs ++ [⟨p.last, 255#8, true⟩], p.asm.buf, p.asm.bitcnt, true, p.polls + 1⟩

/-- What `sample_pass` returns when the present phase, the last, ends normally. -/
def PassState.finished (p : PassState) : PassResult :=
  ⟨p.trs ++ [⟨p.last, p.cnt, false⟩], p.decoded.buf, p.decoded.bitcnt, false, p.polls + 1⟩

section
variable {p : PassState} {w : Level}

theorem PassState.poll_counts (hw : w = p.last) (hc : p.cnt.toNat ≠ 254) : p.poll w = .inl (p.counted 1) := by
  simp [PassState.poll, PassState.counted, hw, hc, Config.tickSat]

theorem PassState.poll_saturates (hw : w = p.last) (hc : p.cnt.toNat = 254) : p.poll w = .inr p.saturated := by
  simp [PassState.poll, PassState.saturated, hw, hc, Config.tickSat]

theorem PassState.poll_endsPhase (hw : w ≠ p.last) (hp : p.phase.toNat ≠ 84) : p.poll w = .inl (p.nextPhase w) := by
  simp [PassState.poll, PassState.nextPhase, PassState.decoded, hw, hp, Config.maxPhases]

theorem PassState.poll_endsPass (hw : w ≠ p.last) (hp : p.phase.toNat = 84) : p.poll w = .inr p.finished := by
  simp [PassState.poll, PassState.finished, PassState.decoded, hw, hp, Config.maxPhases]

end

/-- Everything one sample can do to a pass (R116). -/
inductive PassState.PollCase (p : PassState) (w : Level) : PassState ⊕ PassResult → Prop
  | counts (hw : w = p.last) (hc : p.cnt.toNat ≠ 254) : PollCase p w (.inl (p.counted 1))
  | saturates (hw : w = p.last) (hc : p.cnt.toNat = 254) : PollCase p w (.inr p.saturated)
  | endsPhase (hw : w ≠ p.last) (hp : p.phase.toNat ≠ 84) : PollCase p w (.inl (p.nextPhase w))
  | endsPass (hw : w ≠ p.last) (hp : p.phase.toNat = 84) : PollCase p w (.inr p.finished)

theorem PassState.poll_cases (p : PassState) (w : Level) : p.PollCase w (p.poll w) := by
  by_cases hw : w = p.last
  · by_cases hc : p.cnt.toNat = 254
    · rw [PassState.poll_saturates hw hc]
      exact .saturates hw hc
    · rw [PassState.poll_counts hw hc]
      exact .counts hw hc
  · by_cases hp : p.phase.toNat = 84
    · rw [PassState.poll_endsPass hw hp]
      exact .endsPass hw hp
    · rw [PassState.poll_endsPhase hw hp]
      exact .endsPhase hw hp

theorem PassState.run_cons_of_next {p q : PassState} {w : Level} (h : p.poll w = .inl q) (ws : List Level) :
    p.run (w :: ws) = q.run ws := by
  simp [PassState.run, h]

theorem PassState.run_cons_of_end {p : PassState} {w : Level} {r : PassResult} (h : p.poll w = .inr r)
    (ws : List Level) : p.run (w :: ws) = some r := by
  simp [PassState.run, h]

/-! ### How long a pass takes (R113, R117) -/

/-- What the variables of `sample_pass` keep between two samples: each ended phase was not saturated, took one poll at
least and 255 at most, and emitted its Transition. -/
structure PassState.Bounded (p : PassState) : Prop where
  phase_le : p.phase.toNat ≤ 84
  cnt_le : p.cnt.toNat ≤ 254
  polls_ge : p.phase.toNat + p.cnt.toNat ≤ p.polls
  polls_le : p.polls ≤ 255 * p.phase.toNat + p.cnt.toNat
  trs_length : p.trs.length = p.phase.toNat
  unsaturated : ∀ t ∈ p.trs, t.sat = false

/-- The most samples that the pass can still take (R117). -/
def PassState.pollsLeft (p : PassState) : Nat := (84 - p.phase.toNat) * 255 + (255 - p.cnt.toNat)

/-- What R113 and R117 say of the result of a pass. -/
structure PassResult.Bounded (r : PassResult) : Prop where
  polls_ge : 85 ≤ r.polls
  polls_le : r.polls ≤ 21675
  trs_length_pos : 1 ≤ r.trs.length
  trs_length_le : r.trs.length ≤ 85
  saturated_iff : ∀ k t, r.trs[k]? = some t → (t.sat = true ↔ r.timeout = true ∧ k + 1 = r.trs.length)
  all_phases : r.timeout = false → r.trs.length = 85

theorem PassState.start_bounded : PassState.start.Bounded where
  phase_le := by decide
  cnt_le := by decide
  polls_ge := by decide
  polls_le := by decide
  trs_length := rfl
  unsaturated := nofun

/-- When no Transition of `ts` is saturated, one of `ts ++ [u]` is so exactly if it is the last and `u` is. -/
theorem sat_getElem?_concat_iff {ts : List Transition} {u t : Transition} {k : Nat} (hts : ∀ t ∈ ts, t.sat = false)
    (h : (ts ++ [u])[k]? = some t) : t.sat = true ↔ u.sat = true ∧ k + 1 = ts.length + 1 := by
  rcases Nat.lt_trichotomy k ts.length with hk | rfl | hk
  · rw [List.getElem?_append_left hk] at h
    simp [hts t (List.mem_of_getElem? h), hk.ne]
  · obtain rfl : u = t := by simpa using h
    simp
  · rw [List.getElem?_eq_none (by simpa using hk)] at h
    cases h

section
variable {p q : PassState} {r : PassResult} {w : Level}

theorem PassState.toNat_cnt_counted {n : Nat} (h : p.cnt.toNat + n ≤ 254) :
    (p.counted n).cnt.toNat = p.cnt.toNat + n := by
  simp only [PassState.counted, BitVec.toNat_add, BitVec.toNat_ofNat]
  omega

theorem PassState.toNat_phase_nextPhase (h : p.phase.toNat < 84) :
    (p.nextPhase w).phase.toNat = p.phase.toNat + 1 := by
  simp only [PassState.nextPhase]
  bv_omega

/-- A sample that does not end the pass keeps the bounds and brings the end nearer. -/
theorem PassState.Bounded.next (h : p.Bounded) (hq : p.poll w = .inl q) :
    q.Bounded ∧ q.pollsLeft < p.pollsLeft ∧ q.polls = p.polls + 1 := by
  obtain ⟨hphase, hcnt, hge, hle, hlen, hsat⟩ := h
  have hcase := p.poll_cases w
  rw [hq] at hcase
  cases hcase with
  | counts _ hc =>
    have hcnt' : (p.counted 1).cnt.toNat = p.cnt.toNat + 1 := PassState.toNat_cnt_counted (by omega)
    have hphase' : (p.counted 1).phase.toNat = p.phase.toNat := rfl
    have hpolls : (p.counted 1).polls = p.polls + 1 := rfl
    refine ⟨⟨hphase, by omega, by omega, by omega, hlen, hsat⟩, ?_, rfl⟩
    unfold PassState.pollsLeft
    omega
  | endsPhase _ hp =>
    have hphase' : (p.nextPhase w).phase.toNat = p.phase.toNat + 1 := PassState.toNat_phase_nextPhase (by omega)
    have hcnt' : (p.nextPhase w).cnt.toNat = 0 := rfl
    have hpolls : (p.nextPhase w).polls = p.polls + 1 := rfl
    refine ⟨⟨by omega, by omega, by omega, by omega, ?_, ?_⟩, ?_, rfl⟩
    · rw [hphase', ← hlen]
      exact List.length_append
    · exact List.forall_mem_append.2 ⟨hsat, by simp⟩
    · unfold PassState.pollsLeft
      omega

/-- A sample that ends the pass gives a result within the bounds. -/
theorem PassState.Bounded.result (h : p.Bounded) (hr : p.poll w = .inr r) : r.Bounded ∧ r.polls = p.polls + 1 := by
  obtain ⟨hphase, hcnt, hge, hle, hlen, hsat⟩ := h
  have hcase := p.poll_cases w
  rw [hr] at hcase
  cases hcase with
  | saturates _ hc =>
    have hlen' : p.saturated.trs.length = p.phase.toNat + 1 := by simp [PassState.saturated, hlen]
    have hpolls : p.saturated.polls = p.polls + 1 := rfl
    refine ⟨⟨by omega, by omega, by omega, by omega, fun k t hk => ?_, nofun⟩, rfl⟩
    rw [hlen', ← hlen]
    exact sat_getElem?_concat_iff hsat hk
  | endsPass _ hp =>
    have hlen' : p.finished.trs.length = p.phase.toNat + 1 := by simp [PassState.finished, hlen]
    have hpolls : p.finished.polls = p.polls + 1 := rfl
    refine ⟨⟨by omega, by omega, by omega, by omega, fun k t hk => ?_, fun _ => by omega⟩, rfl⟩
    rw [hlen', ← hlen]
    exact sat_getElem?_concat_iff hsat hk

end

/-- R117: the samples that a pass can still take contain its end. -/
theorem PassState.Bounded.run_ends {p : PassState} {ws : List Level} (h : p.Bounded) (hw : p.pollsLeft ≤ ws.length) :
    ∃ r, p.run ws = some r := by
  induction ws generalizing p with
  | nil =>
    have := h.cnt_le
    simp only [PassState.pollsLeft, List.length_nil] at hw
    omega
  | cons w ws ih =>
    rw [List.length_cons] at hw
    cases hpoll : p.poll w with
    | inl q =>
      obtain ⟨hq, hleft, _⟩ := h.next hpoll
      rw [PassState.run_cons_of_next hpoll]
      exact ih hq (by omega)
    | inr r => exact ⟨r, PassState.run_cons_of_end hpoll ws⟩

/-- The result of a pass keeps the bounds, and its polls are samples it was given. -/
theorem PassState.Bounded.run_result {p : PassState} {ws : List Level} {r : PassResult} (h : p.Bounded)
    (hr : p.run ws = some r) : r.Bounded ∧ r.polls ≤ p.polls + ws.length := by
  induction ws generalizing p with
  | nil => cases hr
  | cons w ws ih =>
    rw [List.length_cons]
    cases hpoll : p.poll w with
    | inl q =>
      obtain ⟨hq, _, hpolls⟩ := h.next hpoll
      rw [PassState.run_cons_of_next hpoll] at hr
      obtain ⟨hbounded, hle⟩ := ih hq hr
      exact ⟨hbounded, by omega⟩
    | inr r' =>
      obtain ⟨hbounded, hpolls⟩ := h.result hpoll
      cases (PassState.run_cons_of_end hpoll ws).symm.trans hr
      exact ⟨hbounded, by omega⟩

/-- Settles O35, by what the variables of `sample_pass` keep between two samples. -/
theorem passBounds : Obligations.PassBounds := by
  refine ⟨fun ws hlen => PassState.start_bounded.run_ends hlen, fun ws r hr => ?_⟩
  obtain ⟨⟨hge, hle, hpos, hlen, hsat, hall⟩, hpolls⟩ := PassState.start_bounded.run_result hr
  exact ⟨hge, hle, by simpa [PassState.start] using hpolls, hpos, hlen, hsat, hall⟩

/-! ### Runs of samples at one level -/

/-- From `p` the samples `ss` do not end the pass and leave its variables at `q`. -/
def PassState.Reads (p : PassState) (ss : List Level) (q : PassState) : Prop := ∀ ws, p.run (ss ++ ws) = q.run ws

theorem PassState.Reads.append {p q r : PassState} {ss ts : List Level} (hq : p.Reads ss q) (hr : q.Reads ts r) :
    p.Reads (ss ++ ts) r := by
  intro ws
  rw [List.append_assoc, hq, hr]

section
variable {p : PassState} {l : Level} {n : Nat}

theorem PassState.counted_add (p : PassState) (m n : Nat) : (p.counted m).counted n = p.counted (m + n) := by
  simp [PassState.counted, Nat.add_assoc, BitVec.add_assoc, BitVec.ofNat_add]

/-- Samples of an unchanged level only count while the count stays at most 254 (R110). -/
theorem PassState.reads_unchanged (hl : l = p.last) (hn : p.cnt.toNat + n ≤ 254) :
    p.Reads (List.replicate n l) (p.counted n) := by
  intro ws
  induction n generalizing p with
  | zero => simp [PassState.counted]
  | succ n ih =>
    have hcnt : (p.counted 1).cnt.toNat = p.cnt.toNat + 1 := PassState.toNat_cnt_counted (by omega)
    rw [List.replicate_succ, List.cons_append, PassState.run_cons_of_next (PassState.poll_counts hl (by omega)),
      ih (p := p.counted 1) hl (by omega), PassState.counted_add, Nat.add_comm 1]

/-- The samples that complete 255 of an unchanged level saturate the phase (R110). -/
theorem PassState.run_saturated (hl : l = p.last) (hn : p.cnt.toNat + n = 254) (ws : List Level) :
    p.run (List.replicate (n + 1) l ++ ws) = some (p.counted n).saturated := by
  have hcnt : (p.counted n).cnt.toNat = 254 := by rw [PassState.toNat_cnt_counted hn.le, hn]
  rw [List.replicate_succ', List.append_assoc, PassState.reads_unchanged hl hn.le]
  exact PassState.run_cons_of_end (PassState.poll_saturates (p := p.counted n) hl hcnt) ws

/-- A run of samples at a changed level ends the phase with its first and counts the others (R111). -/
theorem PassState.reads_changed (hl : l ≠ p.last) (hp : p.phase.toNat ≠ 84) (hn : n ≤ 254) :
    p.Reads (List.replicate (n + 1) l) ((p.nextPhase l).counted n) := by
  intro ws
  rw [List.replicate_succ, List.cons_append, PassState.run_cons_of_next (PassState.poll_endsPhase hl hp)]
  exact PassState.reads_unchanged (p := p.nextPhase l) rfl (by simpa [PassState.nextPhase] using hn) ws

end

/-! ### The pass over the standard test waveform (S3) -/

/-- The pass is in phase `k` at the level `l`, and the frame under assembly is `a` if the phase ends with its present
count. -/
structure PassState.InPhase (p : PassState) (k : Nat) (l : Level) (a : Assembly) : Prop where
  phase : p.phase = BitVec.ofNat 7 k
  last : p.last = l
  trs_length : p.trs.length = k
  decoded : p.decoded = a

theorem PassState.InPhase.toNat_phase {p : PassState} {k : Nat} {l : Level} {a : Assembly} (h : p.InPhase k l a)
    (hk : k ≤ 84) : p.phase.toNat = k := by
  rw [h.phase, BitVec.toNat_ofNat]
  omega

/-- A run of another level leads to the next phase, whose count gives the next bit, if it gives one. -/
theorem PassState.InPhase.reads_changed {p : PassState} {k n : Nat} {l m : Level} {a : Assembly} (h : p.InPhase k l a)
    (hk : k < 84) (hm : m ≠ l) (hn : n ≤ 254) :
    ∃ q, q.InPhase (k + 1) m (a.decodePhase (BitVec.ofNat 7 (k + 1)) (BitVec.ofNat 8 n)) ∧
      p.Reads (List.replicate (n + 1) m) q := by
  have hphase := h.toNat_phase hk.le
  refine ⟨_, ⟨?_, rfl, ?_, ?_⟩, PassState.reads_changed (h.last ▸ hm) (by omega) hn⟩
  · simp [PassState.counted, PassState.nextPhase, h.phase, BitVec.ofNat_add]
  · simp [PassState.counted, PassState.nextPhase, h.trs_length]
  · simp [PassState.counted, PassState.nextPhase, PassState.decoded, ← h.decoded, h.phase, BitVec.ofNat_add]

theorem Assembly.decodePhase_of_not_slot {p : BitVec 7} (h : isSlot p = false) (a : Assembly) (c : BitVec 8) :
    a.decodePhase p c = a := by
  simp [Assembly.decodePhase, h]

theorem Assembly.decodePhase_of_slot {p : BitVec 7} {a : Assembly} (h : isSlot p = true) (ha : a.bitcnt.toNat < 40)
    (c : BitVec 8) : a.decodePhase p c = a.storeBit (bitOf c) := by
  simp [Assembly.decodePhase, h, ha, Config.frameBits]

/-- The Low run before a bit ends a phase that is no slot. -/
theorem PassState.InPhase.reads_low {p : PassState} {k : Nat} {a : Assembly} (h : p.InPhase (2 * k) .high a)
    (hk : k < 42) : ∃ q, q.InPhase (2 * k + 1) .low a ∧ p.Reads (List.replicate 20 .low) q := by
  obtain ⟨q, hq, hreads⟩ := h.reads_changed (n := 19) (m := .low) (by omega) nofun (by omega)
  have hslot : isSlot (BitVec.ofNat 7 (2 * k + 1)) = false := by
    rw [← Bool.not_eq_true, isSlot_iff, BitVec.toNat_ofNat]
    omega
  rw [Assembly.decodePhase_of_not_slot hslot] at hq
  exact ⟨q, hq, hreads⟩

/-- The two runs of a data bit store it (R131 to R134). -/
theorem PassState.InPhase.reads_bit {p : PassState} {a : Assembly} {bs : List Bool}
    (h : p.InPhase (2 * (bs.length + 1)) .high a) (ha : a.Holds bs) (hlen : bs.length < 40) (b : Bool) :
    ∃ q, q.InPhase (2 * (bs.length + 2)) .high (a.storeBit b) ∧ p.Reads (expand (bitRuns b)) q := by
  obtain ⟨q, hq, hlow⟩ := h.reads_low (by omega)
  have hslot : isSlot (BitVec.ofNat 7 (2 * (bs.length + 1) + 1 + 1)) = true := by
    rw [isSlot_iff, BitVec.toNat_ofNat]
    omega
  have hbit : bitOf (BitVec.ofNat 8 (if b then 27 else 9)) = b := by
    cases b <;> decide
  obtain ⟨r, hr, hhigh⟩ :=
    hq.reads_changed (n := if b then 27 else 9) (m := .high) (by omega) nofun (by cases b <;> decide)
  rw [Assembly.decodePhase_of_slot hslot (ha.bitcnt ▸ hlen), hbit] at hr
  refine ⟨r, hr, ?_⟩
  have hruns : expand (bitRuns b) = List.replicate 20 .low ++ List.replicate ((if b then 27 else 9) + 1) .high := by
    cases b <;> rfl
  rw [hruns]
  exact hlow.append hhigh

theorem expand_append (rs ts : List (Level × Nat)) : expand (rs ++ ts) = expand rs ++ expand ts :=
  List.flatMap_append

/-- The bits of a pass, one after the other. -/
theorem PassState.InPhase.reads_bits {p : PassState} {a : Assembly} {bs cs : List Bool}
    (h : p.InPhase (2 * (bs.length + 1)) .high a) (ha : a.Holds bs) (hlen : (bs ++ cs).length ≤ 40) :
    ∃ q b, q.InPhase (2 * ((bs ++ cs).length + 1)) .high b ∧ b.Holds (bs ++ cs) ∧
      p.Reads (expand (cs.flatMap bitRuns)) q := by
  induction cs generalizing p a bs with
  | nil => exact ⟨p, a, by simpa using h, by simpa using ha, fun _ => rfl⟩
  | cons c cs ih =>
    have hlt : bs.length < 40 := by
      rw [List.length_append, List.length_cons] at hlen
      omega
    obtain ⟨q, hq, hbit⟩ := h.reads_bit ha hlt c
    have hsplit : bs ++ c :: cs = bs ++ [c] ++ cs := by simp
    rw [hsplit] at hlen ⊢
    obtain ⟨r, b, hr, hb, hrest⟩ := ih (bs := bs ++ [c]) (by simpa using hq) (ha.storeBit hlt c) hlen
    refine ⟨r, b, hr, hb, ?_⟩
    rw [List.flatMap_cons, expand_append]
    exact hbit.append hrest

/-- The bits of a frame in order of arrival (R52, R83). -/
def Frame.bits (f : Frame) : List Bool := (List.range 40).map f.bit

theorem Frame.length_bits (f : Frame) : f.bits.length = 40 := by simp [Frame.bits]

/-- An assembly that has stored the bits of a frame holds the frame. -/
theorem Assembly.Holds.buf_eq {a : Assembly} {f : Frame} (h : a.Holds f.bits) : a.buf = f := by
  refine Frame.eq_of_get fun i hi => BitVec.eq_of_getLsbD_eq fun p hp => ?_
  have hj : 8 * i + (7 - p) < 40 := by omega
  have hbit := h.bits _ (f.length_bits ▸ hj)
  have hdiv : (8 * i + (7 - p)) / 8 = i := by omega
  have hmod : 7 - (8 * i + (7 - p)) % 8 = p := by omega
  simp only [f.length_bits, bitPlace_full hj, hdiv, hmod] at hbit
  rw [hbit]
  simp only [Frame.bits, List.getElem_map, List.getElem_range]
  rw [f.bit_eq_getLsbD_get hj, hdiv, hmod]

theorem Assembly.Holds.bitcnt_eq {a : Assembly} {f : Frame} (h : a.Holds f.bits) : a.bitcnt = 40#6 :=
  BitVec.eq_of_toNat_eq (h.bitcnt.trans f.length_bits)

/-- The variables of `sample_pass` after the runs before the first bit. -/
theorem PassState.start_reads_preamble :
    ∃ q, q.InPhase 2 .high Assembly.start ∧
      PassState.start.Reads (expand [(.high, 2), (.low, 31), (.high, 32)]) q := by
  have h : (PassState.start.counted 2).InPhase 0 .high Assembly.start := ⟨rfl, rfl, rfl, rfl⟩
  obtain ⟨q, hq, hlow⟩ := h.reads_changed (n := 30) (m := .low) (by decide) nofun (by decide)
  obtain ⟨r, hr, hhigh⟩ := hq.reads_changed (n := 31) (m := .high) (by decide) nofun (by decide)
  have hstart : PassState.start.Reads (List.replicate 2 .high) (PassState.start.counted 2) :=
    PassState.reads_unchanged rfl (by decide)
  exact ⟨r, hr, (hstart.append hlow).append hhigh⟩

/-- The closing High ends the last Low run and saturates phase 84. -/
theorem PassState.InPhase.run_closing {p : PassState} {a : Assembly} {n : Nat} (h : p.InPhase 83 .low a)
    (hn : 256 ≤ n) : ∃ r, p.run (List.replicate n .high) = some r ∧ r.buf = a.buf ∧ r.bitcnt = a.bitcnt ∧
      r.timeout = true ∧ r.trs.length = 85 := by
  obtain ⟨m, rfl⟩ := Nat.exists_eq_add_of_le hn
  have hfirst : p.Reads (List.replicate 1 .high) ((p.nextPhase .high).counted 0) :=
    PassState.reads_changed (by simp [h.last]) (by simp [h.phase]) (by decide)
  have hrest := PassState.run_saturated (p := (p.nextPhase .high).counted 0) (n := 254) (l := .high) rfl rfl
    (List.replicate m .high)
  refine ⟨(((p.nextPhase .high).counted 0).counted 254).saturated, ?_, congrArg Assembly.buf h.decoded,
    congrArg Assembly.bitcnt h.decoded, rfl, ?_⟩
  · rw [show 256 + m = 1 + (255 + m) by omega, List.replicate_add, hfirst, List.replicate_add]
    exact hrest
  · simp [PassState.saturated, PassState.counted, PassState.nextPhase, h.trs_length]

/-- Settles O33: the preamble, the 40 bits and the Low run before the closing High lead to phase 83 with the frame. -/
theorem waveformRoundTrip : Obligations.WaveformRoundTrip := by
  intro f n hn
  obtain ⟨p, hp, hpre⟩ := PassState.start_reads_preamble
  obtain ⟨q, a, hq, ha, hbits⟩ := hp.reads_bits (cs := f.bits) Assembly.start_holds f.length_bits.le
  rw [List.nil_append] at hq ha
  rw [f.length_bits] at hq
  obtain ⟨u, hu, hlow⟩ := hq.reads_low (by decide)
  obtain ⟨r, hr, hbuf, hbitcnt, htimeout, hlen⟩ := hu.run_closing hn
  have hwave : standardWaveform f n = expand [(.high, 2), (.low, 31), (.high, 32)] ++ expand (f.bits.flatMap bitRuns) ++
      List.replicate 20 .low ++ List.replicate n .high := by
    simp [standardWaveform, Frame.bits, expand, List.flatMap_map]
  have hpass : samplePass (standardWaveform f n) = some r := by
    rw [hwave, samplePass, ((hpre.append hbits).append hlow), hr]
  rw [ha.buf_eq] at hbuf
  rw [ha.bitcnt_eq] at hbitcnt
  refine ⟨r, hpass, hbuf, hbitcnt, htimeout, hlen, ?_⟩
  rw [PassResult.outcome, hbuf, hbitcnt]
  exact if_pos rfl

end Sys2Proof.Machine
end

section
/-! PROOFS of the family `41_bit_decoder`: one phase (O30), the decoder over a Transition sequence (O32), and the bits that a
pass stores (O34, O37). -/

namespace Sys2Proof.Machine

/-! ### One phase (R131 to R135) -/

/-- A byte shifted up by one with a bit at its end is the doubled byte plus the bit, modulo 256 (R134). -/
theorem toNat_shiftIn (x : Byte) (b : Bool) :
    ((x <<< 1) ||| (if b then 1#8 else 0#8)).toNat = (2 * x.toNat + if b then 1 else 0) % 256 := by
  have hdouble : (x <<< 1).toNat = 2 ^ 1 * (x.toNat % 128) := by
    rw [BitVec.toNat_shiftLeft, Nat.shiftLeft_eq]
    omega
  have hbit : (if b then 1#8 else 0#8).toNat = if b then 1 else 0 := by cases b <;> rfl
  have hlt : (if b then 1 else 0) < 2 ^ 1 := by cases b <;> decide
  rw [BitVec.toNat_or, hdouble, hbit, ← Nat.two_pow_add_eq_or_of_lt hlt]
  omega

/-- Settles O30: a stored bit changes the byte that `bitcnt` points at and no other. -/
theorem decodePhase : Obligations.DecodePhase := by
  intro a p c
  rw [← isSlot_iff]
  refine ⟨fun ⟨hslot, hcnt⟩ => ?_, fun hnone => ?_⟩
  · have hi : a.bitcnt.toNat / 8 < 5 := by omega
    rw [Assembly.decodePhase_of_slot hslot hcnt]
    refine ⟨a.storeBit_bitcnt _ hcnt, ?_, fun k hk hne => ?_⟩
    · rw [a.storeBit_buf, Frame.get_set_self _ hi, toNat_shiftIn]
      simp only [bitOf_iff]
    · rw [a.storeBit_buf, Frame.get_set_other _ hi hk hne.symm]
  · rcases a.decodePhase_cases p c with ⟨hslot, hcnt, _⟩ | ⟨_, h⟩
    · exact absurd ⟨hslot, hcnt⟩ hnone
    · exact h

/-! ### The decoder over a Transition sequence (R140) -/

/-- R138: the slots below `p` are 4, 6, 8 and so on. -/
theorem slotsBelow_eq (p : Nat) : slotsBelow p = (p - 3) / 2 := by
  induction p with
  | zero => rfl
  | succ p ih =>
    rw [slotsBelow_succ, ih]
    split <;> omega

theorem decodeTransitionsFrom_append (p : Nat) (a : Assembly) (ts us : List Transition) :
    decodeTransitionsFrom p a (ts ++ us) = decodeTransitionsFrom (p + ts.length) (decodeTransitionsFrom p a ts) us := by
  induction ts generalizing p a with
  | nil => rfl
  | cons t ts ih =>
    rw [List.cons_append, decodeTransitionsFrom, ih, List.length_cons, Nat.add_right_comm]
    rfl

/-- The last Transition of a sequence is decoded last, with its place as the phase index. -/
theorem decodeTransitions_concat (ts : List Transition) (t : Transition) :
    decodeTransitions (ts ++ [t]) =
      if t.sat then decodeTransitions ts
      else (decodeTransitions ts).decodePhase (BitVec.ofNat 7 ts.length) t.count := by
  rw [decodeTransitions, decodeTransitionsFrom_append, Nat.zero_add]
  rfl

section
variable {a : Assembly} {bs : List Bool} {n : Nat}

/-- A phase that is no slot, or comes after the last bit, adds none of the bits `bs`. -/
theorem take_slotsBelow_succ (h : ¬(4 ≤ n ∧ n % 2 = 0) ∨ bs.length ≤ slotsBelow n) :
    bs.take (slotsBelow (n + 1)) = bs.take (slotsBelow n) := by
  rcases h with hslot | hall
  · rw [slotsBelow_succ, if_neg hslot, Nat.add_zero]
  · rw [List.take_of_length_le hall, List.take_of_length_le (by rw [slotsBelow_succ]; omega)]

/-- If the slot `n` carries its bit of the 40 bits `bs`, the assembly holds the bits of the slots up to `n` after it. -/
theorem Assembly.Holds.decodePhase (h : a.Holds (bs.take (slotsBelow n))) (hbs : bs.length = 40) (hn : n ≤ 84)
    {c : BitVec 8} (hbit : ∀ j, (hj : j < bs.length) → n = 4 + 2 * j → bitOf c = bs[j]) :
    (a.decodePhase (BitVec.ofNat 7 n) c).Holds (bs.take (slotsBelow (n + 1))) := by
  have hphase : (BitVec.ofNat 7 n).toNat = n := by
    rw [BitVec.toNat_ofNat]
    omega
  have hslots := slotsBelow_eq n
  have hcnt : a.bitcnt.toNat = min (slotsBelow n) bs.length := h.bitcnt.trans List.length_take
  rcases a.decodePhase_cases (BitVec.ofNat 7 n) c with ⟨hslot, hlt, hstore⟩ | ⟨hnone, hsame⟩
  · rw [isSlot_iff, hphase] at hslot
    have hj : slotsBelow n < bs.length := by omega
    rw [hstore, slotsBelow_succ, if_pos hslot, List.take_succ_eq_append_getElem hj, ← hbit _ hj (by omega)]
    exact h.storeBit (by rw [← h.bitcnt]; exact hlt) _
  · rw [hsame, take_slotsBelow_succ (hnone.imp (fun hslot => ?_) (fun _ => by omega))]
    · exact h
    · rw [← hphase, ← isSlot_iff, hslot]
      exact Bool.false_ne_true

end

/-- The first `n` Transitions decode to the bits of the slots below `n`, if none before phase 83 is saturated. -/
theorem decodeTransitions_take_holds {trs : List Transition} {bs : List Bool} (hbs : bs.length = 40)
    (hlen : trs.length ≤ 85) (hsat : ∀ k < 83, (hk : k < trs.length) → trs[k].sat = false)
    (hbit : ∀ j, (hj : j < bs.length) → (hk : 4 + 2 * j < trs.length) → bitOf trs[4 + 2 * j].count = bs[j])
    {n : Nat} (hn : n ≤ trs.length) : (decodeTransitions (trs.take n)).Holds (bs.take (slotsBelow n)) := by
  induction n with
  | zero => exact Assembly.start_holds
  | succ n ih =>
    have hprefix := ih (by omega)
    rw [List.take_succ_eq_append_getElem hn, decodeTransitions_concat]
    split
    next hs =>
      have hlast : 83 ≤ n := by
        by_contra hlt
        simp [hsat n (by omega) hn] at hs
      have hall : bs.length ≤ slotsBelow n := by
        rw [slotsBelow_eq]
        omega
      rwa [take_slotsBelow_succ (.inr hall)]
    next =>
      rw [List.length_take, Nat.min_eq_left (by omega)]
      refine hprefix.decodePhase hbs (by omega) fun j hj hslot => ?_
      subst hslot
      exact hbit j hj hn

/-- Settles O32: at least 83 Transitions have all 40 slots among them. -/
theorem transitionRoundTrip : Obligations.TransitionRoundTrip := by
  intro f trs hmin hmax hsat hbit
  have hunsat : ∀ k < 83, (hk : k < trs.length) → trs[k].sat = false := by
    intro k hk hlt
    obtain ⟨t, ht, hs⟩ := hsat k hk
    rwa [(List.getElem?_eq_some_iff.1 ht).2]
  have hbits : ∀ j, (hj : j < f.bits.length) → (hk : 4 + 2 * j < trs.length) →
      bitOf trs[4 + 2 * j].count = f.bits[j] := by
    intro j hj hk
    obtain ⟨t, ht, hiff⟩ := hbit j (f.length_bits ▸ hj)
    rw [(List.getElem?_eq_some_iff.1 ht).2, Bool.eq_iff_iff, bitOf_iff, hiff]
    simp [Frame.bits]
  have hall : f.bits.length ≤ slotsBelow trs.length := by
    rw [f.length_bits, slotsBelow_eq]
    omega
  have h := decodeTransitions_take_holds f.length_bits hmax hunsat hbits (Nat.le_refl _)
  rw [List.take_length, List.take_of_length_le hall] at h
  rw [← h.buf_eq, ← h.bitcnt_eq]

/-! ### The bits that a pass stores (R138, R140) -/

/-- What the samples of a pass keep up to its end holds of its result. -/
theorem PassState.run_induction {I : PassState → Prop} {J : PassResult → Prop}
    (hnext : ∀ p q w, I p → p.poll w = .inl q → I q) (hend : ∀ p r w, I p → p.poll w = .inr r → J r)
    {p : PassState} {ws : List Level} {r : PassResult} (hp : I p) (hr : p.run ws = some r) : J r := by
  induction ws generalizing p with
  | nil => cases hr
  | cons w ws ih =>
    cases hpoll : p.poll w with
    | inl q =>
      rw [PassState.run_cons_of_next hpoll] at hr
      exact ih (hnext p q w hp hpoll) hr
    | inr u =>
      cases (PassState.run_cons_of_end hpoll ws).symm.trans hr
      exact hend p _ w hp hpoll

/-- Between two samples of a pass the frame under assembly is what the decoder makes of the Transitions so far, with a bit
for each slot among them. -/
structure PassState.Streamed (p : PassState) : Prop extends p.Bounded where
  decodes : decodeTransitions p.trs = p.asm
  bitcnt : p.asm.bitcnt.toNat = min 40 (slotsBelow p.phase.toNat)

/-- What the result of a pass has of its Transitions: the frame they decode to, and a bit for each slot that ended
normally. -/
structure PassResult.Streamed (r : PassResult) : Prop where
  decodes : decodeTransitions r.trs = ⟨r.buf, r.bitcnt⟩
  bitcnt_of_timeout : r.timeout = true → r.bitcnt.toNat = min 40 (slotsBelow (r.trs.length - 1))
  bitcnt_of_all_phases : r.timeout = false → r.bitcnt.toNat = 40

theorem PassState.start_streamed : PassState.start.Streamed :=
  { PassState.start_bounded with decodes := rfl, bitcnt := rfl }

section
variable {p q : PassState} {r : PassResult} {w : Level}

/-- The end of a phase decodes the Transition it emits. -/
theorem PassState.Streamed.decodes_decoded (h : p.Streamed) :
    decodeTransitions (p.trs ++ [⟨p.last, p.cnt, false⟩]) = p.decoded := by
  rw [decodeTransitions_concat, h.decodes, h.trs_length, BitVec.ofNat_toNat, BitVec.setWidth_eq]
  rfl

theorem PassState.Streamed.bitcnt_decoded (h : p.Streamed) :
    p.decoded.bitcnt.toNat = min 40 (slotsBelow (p.phase.toNat + 1)) :=
  p.asm.decodePhase_bitcnt p.phase p.cnt h.bitcnt

theorem PassState.Streamed.next (h : p.Streamed) (hq : p.poll w = .inl q) : q.Streamed := by
  obtain ⟨hbounded, _, _⟩ := h.toBounded.next hq
  have hcase := p.poll_cases w
  rw [hq] at hcase
  cases hcase with
  | counts => exact { hbounded with decodes := h.decodes, bitcnt := h.bitcnt }
  | endsPhase _ hp =>
    have hphase := h.phase_le
    refine { hbounded with decodes := h.decodes_decoded, bitcnt := ?_ }
    rw [PassState.toNat_phase_nextPhase (by omega)]
    exact h.bitcnt_decoded

theorem PassState.Streamed.result (h : p.Streamed) (hr : p.poll w = .inr r) : r.Streamed := by
  have hcase := p.poll_cases w
  rw [hr] at hcase
  cases hcase with
  | saturates =>
    refine ⟨(decodeTransitions_concat _ _).trans h.decodes, fun _ => ?_, nofun⟩
    simp only [PassState.saturated, List.length_append, List.length_singleton, Nat.add_sub_cancel, h.trs_length]
    exact h.bitcnt
  | endsPass _ hp =>
    refine ⟨h.decodes_decoded, nofun, fun _ => h.bitcnt_decoded.trans ?_⟩
    rw [hp, slotsBelow_eq]
    rfl

end

theorem PassResult.streamed_of_samplePass {ws : List Level} {r : PassResult} (h : samplePass ws = some r) : r.Streamed :=
  PassState.run_induction (fun _ _ _ hp => hp.next) (fun _ _ _ hp => hp.result) PassState.start_streamed h

/-- Settles O34, by what the samples of a pass keep. -/
theorem streamedDecodingAgrees : Obligations.StreamedDecodingAgrees :=
  fun _ _ h => (PassResult.streamed_of_samplePass h).decodes

/-- Settles O37: a saturated pass has a complete frame exactly if the 40 slots lie below its last phase. -/
theorem bitCountOfAPass : Obligations.BitCountOfAPass := by
  intro ws r h
  obtain ⟨_, htimeout, hnormal⟩ := PassResult.streamed_of_samplePass h
  rw [slotsBelow_eq] at htimeout
  have hcomplete : frameComplete r.bitcnt = false ↔ r.bitcnt.toNat ≠ 40 := by
    simp [frameComplete, Config.frameBits]
  refine ⟨htimeout, fun hf => BitVec.eq_of_toNat_eq (hnormal hf), ?_, ?_⟩
  · rw [PassResult.outcome, classify_timeout_iff, hcomplete, and_comm]
    refine and_congr_right fun ht => ?_
    have := htimeout ht
    omega
  · rw [PassResult.outcome, ne_eq, classify_incomplete_iff, hcomplete]
    exact fun ⟨hcnt, hf⟩ => hcnt (hnormal hf)

end Sys2Proof.Machine
end

section
/-! PROOFS of the family `42_checksum_validator`: the checksum (O41, O42), the classification (O43) and a silent line (O36), the
answer to a pass (O44) and the cache (O45). -/

namespace Sys2Proof.Machine

/-! ### The checksum (R150, R151) -/

/-- How far the 8-bit sum of bytes 0 to 3 is above byte 4. -/
def Frame.sumError (f : Frame) : Byte := f.humInt + f.humFrac + f.tempInt + f.tempFrac - f.checksum

theorem validate_iff_toNat (f : Frame) :
    validate f = true ↔
      f.checksum.toNat = (f.humInt.toNat + f.humFrac.toNat + f.tempInt.toNat + f.tempFrac.toNat) % 256 := by
  simp [validate]

/-- R150: the carries that an 8-bit register drops are what the reduction modulo 256 takes off. -/
theorem validate_iff_byteSum (f : Frame) :
    validate f = true ↔ f.checksum = f.humInt + f.humFrac + f.tempInt + f.tempFrac := by
  have hsum : (f.humInt + f.humFrac + f.tempInt + f.tempFrac).toNat =
      (f.humInt.toNat + f.humFrac.toNat + f.tempInt.toNat + f.tempFrac.toNat) % 256 := by
    simp only [BitVec.toNat_add]
    omega
  rw [validate_iff_toNat, ← hsum, BitVec.toNat_inj]

theorem validate_iff_sumError (f : Frame) : validate f = true ↔ f.sumError = 0 := by
  rw [validate_iff_byteSum, Frame.sumError, sub_eq_zero, eq_comm]

/-- A change of one byte moves the error by the difference, down for byte 4. -/
theorem Frame.sumError_set (f : Frame) {i : Nat} (hi : i < 5) (v : Byte) :
    (f.set i v).sumError = f.sumError + if i < 4 then v - f.get i else f.get i - v := by
  unfold Frame.sumError
  match i, hi with
  | 0, _ | 1, _ | 2, _ | 3, _ | 4, _ =>
    simp only [Frame.set, Frame.get, Nat.reduceLT, if_true, if_false]
    ring

/-- Settles O41, by the sum in the integers and in the 8-bit register. -/
theorem checksumIsByteSum : Obligations.ChecksumIsByteSum :=
  fun f => ⟨validate_iff_toNat f, validate_iff_byteSum f⟩

/-- Settles O42: another value of one byte takes the sum error away from 0. -/
theorem singleByteCorruptionDetected : Obligations.SingleByteCorruptionDetected := by
  intro f i v hi hne hf
  rw [validate_iff_sumError] at hf
  rw [Bool.eq_false_iff, Ne, validate_iff_sumError, f.sumError_set hi, hf, zero_add]
  split
  · exact sub_ne_zero.2 hne
  · exact sub_ne_zero.2 hne.symm

/-! ### The classification (R153) and a silent line (R155) -/

/-- Settles O43, by what each outcome says of the three results. -/
theorem classification : Obligations.Classification := by
  intro n f timeout
  have hcomplete : frameComplete n = true ↔ n = 40#6 := by
    rw [frameComplete_iff, ← BitVec.toNat_inj]
    rfl
  have hshort (hn : n ≠ 40#6) : frameComplete n = false := Bool.eq_false_iff.2 (mt hcomplete.1 hn)
  exact ⟨fun hn hv => (classify_valid_iff _ _ _).2 ⟨hcomplete.2 hn, hv⟩,
    fun hn hv => (classify_mismatch_iff _ _ _).2 ⟨hcomplete.2 hn, hv⟩,
    fun hn ht => (classify_timeout_iff _ _ _).2 ⟨hshort hn, ht⟩,
    fun hn ht => (classify_incomplete_iff _ _ _).2 ⟨hshort hn, ht⟩⟩

/-- Settles O36: High saturates the phase that a pass starts in, and Low the phase after it. -/
theorem silentLineTimesOut : Obligations.SilentLineTimesOut := by
  refine ⟨fun n hn => ?_, fun n hn => ?_, fun ts f k => (classify_timeout_iff _ _ _).2 ⟨rfl, rfl⟩⟩
  · obtain ⟨m, rfl⟩ := Nat.exists_eq_add_of_le hn
    rw [List.replicate_add]
    exact PassState.run_saturated (p := PassState.start) (n := 254) rfl rfl _
  · obtain ⟨m, rfl⟩ := Nat.exists_eq_add_of_le hn
    have hfirst : PassState.start.Reads (List.replicate 1 .low) ((PassState.start.nextPhase .low).counted 0) :=
      PassState.reads_changed nofun (by decide) (by decide)
    rw [show 256 + m = 1 + (255 + m) by omega, List.replicate_add, samplePass, hfirst, List.replicate_add]
    exact PassState.run_saturated (p := (PassState.start.nextPhase .low).counted 0) (n := 254) rfl rfl _

/-! ### The answer to a pass (R158) -/

/-- Everything the step that ends a pass can do: commit and answer a Valid frame, or answer the error and keep the cache. -/
inductive PassEndCase (s t : State) : Prop where
  | valid (ho : s.passOutcome = .valid) (hfsm : t.fsm = .frameReady) (hrsp : t.rspValid = true)
      (hcode : t.rspCode = s.passOutcome.code.bits) (hdata : t.rspData = s.buf.data) (hcache : t.cache = s.buf)
      (hcacheValid : t.cacheValid = true)
  | failed (ho : s.passOutcome ≠ .valid) (hfsm : t.fsm = .failed) (hrsp : t.rspValid = true)
      (hcode : t.rspCode = s.passOutcome.code.bits) (hdata : t.rspData = 0#40) (hcache : t.cache = s.cache)
      (hcacheValid : t.cacheValid = s.cacheValid)

theorem State.endPass_passEndCase {s u : State} (ho : classify s.bitcnt s.buf u.timeout = s.passOutcome)
    (hcache : u.cache = s.cache) (hcacheValid : u.cacheValid = s.cacheValid) : PassEndCase s (s.endPass u) := by
  rcases State.endPass_cases s u with ⟨hvalid, e⟩ | ⟨o, hclass, hne, e⟩ <;> rw [e]
  · have hp : s.passOutcome = .valid := ho.symm.trans hvalid
    exact .valid hp rfl rfl (by rw [hp]; rfl) rfl rfl rfl
  · have hp : s.passOutcome = o := ho.symm.trans hclass
    exact .failed (hp ▸ hne) rfl rfl (by rw [hp]) rfl hcache hcacheValid

theorem State.EndsPass.pollStep_case {s : State} (h : s.EndsPass) : PassEndCase s (pollStep s) := by
  obtain ⟨_, _, hp, hend⟩ := h
  rcases pollStep_cases s with ⟨hp', _⟩ | ⟨_, hl, hc, _⟩ | ⟨_, hl, _, e⟩ | ⟨_, hl, h84, _⟩ | ⟨_, hl, _, e⟩
  · simp [hp] at hp'
  · simp [hl, hc.not_ge] at hend
  · rw [e]
    exact State.endPass_passEndCase (by simp [State.passOutcome, hl, afterSaturation]) rfl rfl
  · simp [hl, h84] at hend
  · rw [e]
    exact State.endPass_passEndCase (by simp [State.passOutcome, hl, afterPhase]) rfl rfl

theorem State.EndsPass.step_eq {s : State} (h : s.EndsPass) : step s = .next (pollStep s) := by
  obtain ⟨hf, hr, _⟩ := h
  exact step_of_poll hr hf

/-- Settles O44, by the two ends of a pass and the return to Idle. -/
theorem passEndAnswers : Obligations.PassEndAnswers := by
  refine ⟨fun s h => ⟨pollStep s, h.step_eq, ?_⟩, fun s hf hr => step_of_answered hr hf⟩
  cases h.pollStep_case with
  | valid ho hfsm hrsp hcode hdata => exact ⟨hrsp, hcode, fun _ => ⟨hdata, hfsm⟩, (absurd ho ·)⟩
  | failed ho hfsm hrsp hcode hdata => exact ⟨hrsp, hcode, (absurd · ho), fun _ => ⟨hdata, hfsm⟩⟩

/-! ### The cache (R156, R157) -/

/-- No byte of the cache is written, and `cache_valid` changes at most as a successful OPEN clears it. -/
def CacheKept (s t : State) : Prop :=
  t.cache = s.cache ∧ (t.cacheValid = s.cacheValid ∨ (t.cacheValid = false ∧ s.fsm = .closed ∧ t.fsm = .idle))

theorem HandshakeFrame.cacheKept {s t : State} (h : HandshakeFrame s t) : CacheKept s t := by
  obtain ⟨_, hcache, hcacheValid, _⟩ := h
  exact ⟨hcache, .inl hcacheValid⟩

theorem exec_cacheKept {i : Instr} {s t : State} (h : exec i s = .next t) : CacheKept s t := by
  cases exec_cases h with
  | answer => exact ⟨rfl, .inl rfl⟩
  | initError => exact ⟨rfl, .inl rfl⟩
  | opened _ hf => exact ⟨rfl, .inr ⟨rfl, hf, rfl⟩⟩
  | started => exact ⟨rfl, .inl rfl⟩
  | closed => exact ⟨rfl, .inl rfl⟩

theorem commandStep_cacheKept {s t : State} (h : commandStep s = .next t) : CacheKept s t := by
  rcases commandStep_cases s with ⟨_, e⟩ | ⟨_, i, _, e⟩ | ⟨_, _, _, e⟩
  · cases e.symm.trans h
    exact ⟨rfl, .inl rfl⟩
  · exact exec_cacheKept (e.symm.trans h)
  · cases e.symm.trans h
    exact ⟨rfl, .inl rfl⟩

/-- A poll that does not end a Valid pass keeps the cache. -/
theorem pollStep_cacheKept {s : State} (hf : s.fsm = .poll) (hr : s.input.rst = false)
    (hno : ¬(s.EndsPass ∧ s.passOutcome = .valid)) : CacheKept s (pollStep s) := by
  by_cases hend : s.EndsPass
  · cases hend.pollStep_case with
    | valid ho => exact absurd ⟨hend, ho⟩ hno
    | failed _ _ _ _ _ hcache hcacheValid => exact ⟨hcache, .inl hcacheValid⟩
  · rcases pollStep_cases s with ⟨_, e⟩ | ⟨_, _, _, e⟩ | ⟨hp, hl, hc, _⟩ | ⟨_, _, _, e⟩ | ⟨hp, hl, h84, _⟩
    · exact e ▸ ⟨rfl, .inl rfl⟩
    · exact e ▸ ⟨rfl, .inl rfl⟩
    · exact absurd ⟨hf, hr, hp, .inl ⟨hl, hc⟩⟩ hend
    · exact e ▸ ⟨rfl, .inl rfl⟩
    · exact absurd ⟨hf, hr, hp, .inr ⟨hl, h84⟩⟩ hend

/-- Without reset, only the end of a Valid pass writes the cache. -/
theorem step_cacheKept {s t : State} (hr : s.input.rst = false) (hno : ¬(s.EndsPass ∧ s.passOutcome = .valid))
    (h : step s = .next t) : CacheKept s t := by
  rcases step_cases s with ⟨h1, _⟩ | ⟨_, _, e⟩ | ⟨_, _, e⟩ | ⟨_, _, e⟩ | ⟨_, hf, e⟩ | ⟨_, _, e⟩
  · simp [hr] at h1
  · exact commandStep_cacheKept (e.symm.trans h)
  · cases e.symm.trans h
    exact (startLowStep_frame s).cacheKept
  · cases e.symm.trans h
    exact (releaseHighStep_frame s).cacheKept
  · cases e.symm.trans h
    exact pollStep_cacheKept hf hr hno
  · cases e.symm.trans h
    exact ⟨rfl, .inl rfl⟩

/-- Settles O45: the end of a Valid pass commits `buf`, and every other step keeps the cache. -/
theorem cacheHoldsLastValidFrame : Obligations.CacheHoldsLastValidFrame := by
  refine fun s t hr h => ⟨fun hend ho => ?_, fun hno => step_cacheKept hr hno h⟩
  cases hend.step_eq.symm.trans h
  cases hend.pollStep_case with
  | valid _ _ _ _ _ hcache hcacheValid => exact ⟨hcache, hcacheValid⟩
  | failed hne => exact absurd ho hne

end Sys2Proof.Machine
end

section
/-! PROOFS of the family `43_unit_converter`: the four formulas (O46), the ranges of their results (O47), and TEMP and
HUM in every state (O18, O19). The bit operations of the formulas are turned into arithmetic once; the ranges are
arithmetic over that, and the response data rests on the ranges. -/

namespace Sys2Proof.Machine

/-! ### The bit operations of the formulas as arithmetic -/

theorem Byte.getLsbD_seven (b : Byte) : b.getLsbD 7 = decide (128 ≤ b.toNat) :=
  b.msb_eq_getLsbD_last.symm.trans b.msb_eq_decide

theorem Byte.toNat_and_0x0F (b : Byte) : (b &&& 0x0F#8).toNat = b.toNat % 16 :=
  (BitVec.toNat_and ..).trans (Nat.and_two_pow_sub_one_eq_mod b.toNat 4)

theorem Byte.toNat_and_0x7F (b : Byte) : (b &&& 0x7F#8).toNat = b.toNat % 128 :=
  (BitVec.toNat_and ..).trans (Nat.and_two_pow_sub_one_eq_mod b.toNat 7)

/-- A byte put below a number in bits 7:0 is added to 256 times that number. -/
theorem shiftLeft_eight_or_byte (n : Nat) (b : Byte) : (n <<< 8) ||| b.toNat = 256 * n + b.toNat := by
  rw [← Nat.shiftLeft_add_eq_or_of_lt b.isLt, Nat.shiftLeft_eq, Nat.mul_comm]

/-! ### The four formulas (R172 to R175) -/

theorem tempA_eq (ti tf : Byte) : tempA ti tf =
    10 * (if 128 ≤ tf.toNat then -(ti.toNat : Int) - 1 else (ti.toNat : Int)) + ((tf.toNat % 16 : Nat) : Int) := by
  simp only [tempA, Byte.getLsbD_seven, Byte.toNat_and_0x0F, decide_eq_true_eq]

theorem tempB_eq (ti tf : Byte) : tempB ti tf =
    if 128 ≤ ti.toNat then -((256 * (ti.toNat % 128) + tf.toNat : Nat) : Int)
    else ((256 * (ti.toNat % 128) + tf.toNat : Nat) : Int) := by
  simp only [tempB, Byte.getLsbD_seven, Byte.toNat_and_0x7F, shiftLeft_eight_or_byte, decide_eq_true_eq]

theorem humB_eq (hi hf : Byte) : humB hi hf = 256 * hi.toNat + hf.toNat :=
  shiftLeft_eight_or_byte hi.toNat hf

/-- Settles O46, by the bit operations as division and remainder. -/
theorem conversionFormulas : Obligations.ConversionFormulas :=
  ⟨tempA_eq, fun _ _ => rfl, tempB_eq, humB_eq, by decide⟩

/-! ### The ranges of the results (R181) -/

theorem tempA_range_of_sign_clear (ti : Byte) {tf : Byte} (h : tf.toNat < 128) :
    0 ≤ tempA ti tf ∧ tempA ti tf ≤ 2565 := by
  rw [tempA_eq, if_neg (by omega)]
  omega

theorem tempA_range_of_sign_set (ti : Byte) {tf : Byte} (h : 128 ≤ tf.toNat) :
    -2560 ≤ tempA ti tf ∧ tempA ti tf ≤ 5 := by
  rw [tempA_eq, if_pos h]
  omega

theorem humA_le (hi hf : Byte) : humA hi hf ≤ 2805 := by
  unfold humA
  omega

theorem tempB_range (ti tf : Byte) : -32767 ≤ tempB ti tf ∧ tempB ti tf ≤ 32767 := by
  rw [tempB_eq]
  split <;> omega

theorem humB_le (hi hf : Byte) : humB hi hf ≤ 65535 := by
  rw [humB_eq]
  omega

/-- R170: a temperature of either variant is a 16-bit two's complement number other than -32768. -/
theorem temperature_range (v : Variant) (f : Frame) : -32767 ≤ temperature v f ∧ temperature v f ≤ 32767 := by
  cases v with
  | a =>
    rcases Nat.lt_or_ge f.tempFrac.toNat 128 with h | h
    · obtain ⟨hlow, hhigh⟩ := tempA_range_of_sign_clear f.tempInt h
      exact ⟨hlow.trans' (by decide), hhigh.trans (by decide)⟩
    · obtain ⟨hlow, hhigh⟩ := tempA_range_of_sign_set f.tempInt h
      exact ⟨hlow.trans' (by decide), hhigh.trans (by decide)⟩
  | b => exact tempB_range f.tempInt f.tempFrac

/-- R170: a humidity of either variant is a 16-bit number. -/
theorem humidity_lt (v : Variant) (f : Frame) : humidity v f < 2 ^ 16 := by
  cases v with
  | a => exact Nat.lt_of_le_of_lt (humA_le f.humInt f.humFrac) (by decide)
  | b => exact Nat.lt_succ_of_le (humB_le f.humInt f.humFrac)

theorem toInt_ofInt_temperature (v : Variant) (f : Frame) :
    (BitVec.ofInt 16 (temperature v f)).toInt = temperature v f := by
  obtain ⟨hlow, hhigh⟩ := temperature_range v f
  exact BitVec.toInt_ofInt_eq_self (by decide) (hlow.trans' (by decide)) (hhigh.trans_lt (by decide))

theorem toNat_ofNat_humidity (v : Variant) (f : Frame) : (BitVec.ofNat 16 (humidity v f)).toNat = humidity v f :=
  (BitVec.toNat_ofNat ..).trans (Nat.mod_eq_of_lt (humidity_lt v f))

/-- Settles O47, by the range of each formula; every bound is attained at the bytes the statement names. -/
theorem conversionRanges : Obligations.ConversionRanges :=
  ⟨fun ti _ => tempA_range_of_sign_clear ti, fun ti _ => tempA_range_of_sign_set ti, humA_le, tempB_range, humB_le,
    by decide, by decide, by decide, by decide, by decide, by decide, by decide, by decide, by decide, by decide,
    fun v f => ⟨toInt_ofInt_temperature v f, toNat_ofNat_humidity v f⟩⟩

/-! ### The data of an Ok response (R80, R176, R177) -/

theorem tempData_eq (v : Variant) (f : Frame) : tempData v f = BitVec.ofNat 40
    ((if v = .a then tempA f.tempInt f.tempFrac else tempB f.tempInt f.tempFrac) % 65536).toNat := by
  have hvariant : temperature v f = if v = .a then tempA f.tempInt f.tempFrac else tempB f.tempInt f.tempFrac := by
    cases v <;> rfl
  rw [tempData, ← BitVec.ofNat_toNat, BitVec.toNat_ofInt, hvariant]
  rfl

theorem humData_eq (v : Variant) (f : Frame) : humData v f = BitVec.ofNat 40
    (if v = .a then humA f.humInt f.humFrac else humB f.humInt f.humFrac) := by
  have hvariant : humidity v f = if v = .a then humA f.humInt f.humFrac else humB f.humInt f.humFrac := by
    cases v <;> rfl
  rw [humData, ← BitVec.ofNat_toNat, toNat_ofNat_humidity, hvariant]

/-! ### TEMP and HUM, whichever conversion they apply (R176 to R178) -/

section
variable (data : Variant → Frame → RspData) {s : State}

theorem execConvert_of_closed (hf : s.fsm = .closed) :
    execConvert data s = .next (s.nextCycle.raiseError .notOpen) := by
  simp [execConvert, hf]

theorem execConvert_of_no_cache (hf : s.fsm ≠ .closed) (hc : s.cacheValid = false) :
    execConvert data s = .next (s.nextCycle.raiseError .noData) := by
  simp [execConvert, hf, hc]

theorem execConvert_of_cache (hf : s.fsm ≠ .closed) (hc : s.cacheValid = true) :
    execConvert data s = .next (s.nextCycle.respond .ok (data s.variant s.cache)) := by
  simp [execConvert, hf, hc]

end

/-- Settles O18, by the three branches that TEMP and HUM share and the data of a temperature. -/
theorem tempInEveryState : Obligations.TempInEveryState := by
  refine fun s => ⟨execConvert_of_closed tempData, fun hf hc => ⟨_, execConvert_of_no_cache tempData hf hc⟩,
    fun hf hc => ?_⟩
  rw [← tempData_eq]
  exact execConvert_of_cache tempData hf hc

/-- Settles O19, by the three branches that TEMP and HUM share and the data of a humidity. -/
theorem humInEveryState : Obligations.HumInEveryState := by
  refine fun s => ⟨execConvert_of_closed humData, fun hf hc => ⟨_, execConvert_of_no_cache humData hf hc⟩,
    fun hf hc => ?_⟩
  rw [← humData_eq]
  exact execConvert_of_cache humData hf hc

end Sys2Proof.Machine
end

section
/-! PROOFS of the family `44_sensor_driver`: OPEN and CLOSE in every state (O16, O20), CLOSE over and over (O21), the
variant of an open block (O23), the changes of `fsm` (O11), and READ as one big step (O39). -/

namespace Sys2Proof.Machine

/-! ### OPEN as a command (R190 to R194) -/

section
variable {s : State} {arg : Nat}

/-- R192. -/
theorem exec_open_of_not_closed (arg : Nat) (hf : s.fsm ≠ .closed) :
    exec (.cmdOpen arg) s = .next (s.nextCycle.raiseError .alreadyOpen) := by
  simp [exec, execOpen, hf]

/-- R193. -/
theorem exec_open_of_unknown_variant (hf : s.fsm = .closed) (hv : variantOfCode arg = none) :
    exec (.cmdOpen arg) s = .next (s.nextCycle.raiseError .configError) := by
  simp [exec, execOpen, hf, hv]

/-- R194. -/
theorem exec_open_of_init_failure {v : Variant} (hf : s.fsm = .closed) (hv : variantOfCode arg = some v)
    (hi : s.input.initOk = false) :
    exec (.cmdOpen arg) s = .next ({ s.nextCycle with paInit := true }.raiseError .initError) := by
  simp [exec, execOpen, hf, hv, hi]

/-- R191. -/
theorem exec_open_of_init_ok {v : Variant} (hf : s.fsm = .closed) (hv : variantOfCode arg = some v)
    (hi : s.input.initOk = true) : exec (.cmdOpen arg) s = .next ((s.opened v).respond .ok 0#40) := by
  simp [exec, execOpen, hf, hv, hi, State.opened]

end

/-- The variant of a known code (R73). -/
theorem variantOfCode_of_known {arg : Nat} (h : arg = 11 ∨ arg = 22) :
    variantOfCode arg = some (if arg = 11 then .a else .b) := by
  rcases h with rfl | rfl <;> rfl

/-- Settles O16, by the four branches of OPEN. -/
theorem openInEveryState : Obligations.OpenInEveryState :=
  fun _ arg => ⟨exec_open_of_not_closed arg,
    fun hf hA hB => exec_open_of_unknown_variant hf ((variantOfCode_eq_none_iff arg).2 ⟨hA, hB⟩),
    fun hf hv hi => exec_open_of_init_failure hf (variantOfCode_of_known hv) hi,
    fun hf hv hi => exec_open_of_init_ok hf (variantOfCode_of_known hv) hi⟩

/-! ### CLOSE as a command (R199, R200) -/

/-- R199. -/
theorem exec_close_of_idle {s : State} (hf : s.fsm = .idle) :
    exec .cmdClose s = .next (s.closedFromIdle.respond .ok 0#40) :=
  ((execClose_cases s).resolve_right fun h => h.1 hf).2

/-- R200. -/
theorem exec_close_of_closed {s : State} (hf : s.fsm = .closed) :
    exec .cmdClose s = .next (s.nextCycle.respond .ok 0#40) :=
  ((execClose_cases s).resolve_left fun h => by simp [hf] at h).2

/-- Settles O20, by the two cases of CLOSE. -/
theorem closeInEveryState : Obligations.CloseInEveryState :=
  fun _ => ⟨exec_close_of_idle, exec_close_of_closed⟩

/-- A cycle that presents a CLOSE without reset. -/
def Inputs.PresentsClose (i : Inputs) : Prop := i.rst = false ∧ i.cmdValid = true ∧ i.cmd = 0x0500#16

/-- What a CLOSE answers from Closed or Idle: Closed, with the response Ok and no bring-up (R199). -/
structure State.ClosedOk (s : State) : Prop where
  fsm : s.fsm = .closed
  paInit : s.paInit = false
  rspValid : s.rspValid = true
  rspCode : s.rspCode = 0#4
  rspData : s.rspData = 0#40

/-- `s` with the shut-down pulse over if any of `n` cycles passed, before the inputs `r`. -/
def State.reclosed (s : State) (n : Nat) (r : List Inputs) : State :=
  { s with paShutdown := if n = 0 then s.paShutdown else false, inputs := r, cycle := s.cycle + n }

theorem State.reclosed_add_one (s : State) (n : Nat) (q r : List Inputs) :
    (s.reclosed 1 q).reclosed n r = s.reclosed (n + 1) r := by
  simp [State.reclosed, Nat.add_assoc, Nat.add_comm 1]

theorem step_of_close {s : State} (hf : s.fsm.resting = true) (hi : s.input.PresentsClose) :
    step s = exec .cmdClose s := by
  obtain ⟨hr, hv, hc⟩ := hi
  exact step_of_decode_ok hr hf hv ((close_word_iff _).1 hc)

theorem State.ClosedOk.step_close {s : State} {i : Inputs} {r : List Inputs} (h : s.ClosedOk)
    (hs : s.inputs = i :: r) (hi : i.PresentsClose) : step s = .next (s.reclosed 1 r) := by
  obtain ⟨hf, hinit, hv, hc, hd⟩ := h
  rw [step_of_close (by rw [hf]; rfl) (State.input_of_cons hs ▸ hi), exec_close_of_closed hf]
  simp [State.reclosed, State.nextCycle, State.respond, RspCode.bits, hs, hinit, hv, hc, hd]

/-- R200 over a run: CLOSE after CLOSE changes nothing but the pulse. -/
theorem State.ClosedOk.run_close {s : State} {ins r : List Inputs} (h : s.ClosedOk) (hs : s.inputs = ins ++ r)
    (hins : ∀ i ∈ ins, i.PresentsClose) : run ins.length s = .next (s.reclosed ins.length r) := by
  induction ins generalizing s with
  | nil => simp [State.reclosed, ← show s.inputs = r from hs]
  | cons i ins ih =>
    obtain ⟨hi, hrest⟩ := List.forall_mem_cons.1 hins
    have hnext : (s.reclosed 1 (ins ++ r)).ClosedOk := ⟨h.fsm, h.paInit, h.rspValid, h.rspCode, h.rspData⟩
    calc run (ins.length + 1) s = run ins.length (s.reclosed 1 (ins ++ r)) := run_succ_of_next (h.step_close hs hi) _
      _ = .next ((s.reclosed 1 (ins ++ r)).reclosed ins.length r) := ih hnext rfl hrest
      _ = .next (s.reclosed (ins.length + 1) r) := congrArg _ (s.reclosed_add_one ..)

/-- CLOSE answers in Closed with Ok, and whatever inputs it finds it only uses up their cycle. -/
theorem exec_close_ignores_inputs {s t : State} (hf : s.fsm.resting = true) (i : Inputs) (r : List Inputs)
    (h : exec .cmdClose s = .next t) :
    t.ClosedOk ∧ exec .cmdClose { s with inputs := i :: r } = .next { t with inputs := r } := by
  rcases (Fsm.resting_iff _).1 hf with hf | hf
  · cases (exec_close_of_closed hf).symm.trans h
    exact ⟨⟨hf, rfl, rfl, rfl, rfl⟩, exec_close_of_closed (s := { s with inputs := i :: r }) hf⟩
  · cases (exec_close_of_idle hf).symm.trans h
    exact ⟨⟨rfl, rfl, rfl, rfl, rfl⟩, exec_close_of_idle (s := { s with inputs := i :: r }) hf⟩

/-- Settles O21: the first CLOSE leaves Closed with the response Ok, and the others keep that. -/
theorem closeIsIdempotent : Obligations.CloseIsIdempotent := by
  intro s t ins r hf hins hne h
  cases ins with
  | nil => exact absurd rfl hne
  | cons i ins =>
    obtain ⟨hi, hrest⟩ := List.forall_mem_cons.1 hins
    have hresting := (Fsm.resting_iff _).2 hf
    obtain ⟨⟨hfsm, hinit, hv, hc, hd⟩, hclose⟩ := exec_close_ignores_inputs hresting i (ins ++ r) h
    obtain ⟨_, _, hcycle, _⟩ := commandFrames _ _ _ h
    have hstep := (step_of_close (s := { s with inputs := i :: (ins ++ r) }) hresting hi).trans hclose
    calc run (ins.length + 1) { s with inputs := i :: (ins ++ r) }
      _ = run ins.length { t with inputs := ins ++ r } := run_succ_of_next hstep _
      _ = .next (State.reclosed { t with inputs := ins ++ r } ins.length r) :=
        State.ClosedOk.run_close ⟨hfsm, hinit, hv, hc, hd⟩ rfl hrest
      _ = .next { t with
            paShutdown := if ins.length + 1 = 1 then t.paShutdown else false, inputs := r,
            cycle := s.cycle + (ins.length + 1) } := by
        simp [State.reclosed, hcycle, Nat.add_assoc, Nat.add_comm 1]

/-! ### The variant of an open block (R192) -/

/-- The variant changes at most in a step from Closed to Idle. -/
def VariantKept (s t : State) : Prop := t.variant ≠ s.variant → s.fsm = .closed ∧ t.fsm = .idle

theorem exec_variantKept {i : Instr} {s t : State} (h : exec i s = .next t) : VariantKept s t := by
  cases exec_cases h with
  | answer => exact absurd rfl
  | initError => exact absurd rfl
  | opened _ hf => exact fun _ => ⟨hf, rfl⟩
  | started => exact absurd rfl
  | closed => exact absurd rfl

theorem commandStep_variantKept {s t : State} (h : commandStep s = .next t) : VariantKept s t := by
  rcases commandStep_cases s with ⟨_, e⟩ | ⟨_, i, _, e⟩ | ⟨_, _, _, e⟩
  · cases e.symm.trans h
    exact absurd rfl
  · exact exec_variantKept (e.symm.trans h)
  · cases e.symm.trans h
    exact absurd rfl

/-- Without reset, only the command port can change the variant. -/
theorem step_variantKept {s t : State} (hr : s.input.rst = false) (h : step s = .next t) : VariantKept s t := by
  rcases step_cases s with ⟨h1, _⟩ | ⟨_, _, e⟩ | ⟨_, _, e⟩ | ⟨_, _, e⟩ | ⟨_, _, e⟩ | ⟨_, _, e⟩
  · simp [hr] at h1
  · exact commandStep_variantKept (e.symm.trans h)
  · cases e.symm.trans h
    exact absurd (startLowStep_frame s).1
  · cases e.symm.trans h
    exact absurd (releaseHighStep_frame s).1
  · cases e.symm.trans h
    exact absurd (pollStep_frame s).1
  · cases e.symm.trans h
    exact absurd rfl

/-- Settles O23: an OPEN in Idle is answered AlreadyOpen, and only a successful OPEN writes the variant. -/
theorem variantImmutableWhileOpen : Obligations.VariantImmutableWhileOpen :=
  ⟨fun s arg hf => exec_open_of_not_closed arg (by simp [hf]), fun _ _ hr h => step_variantKept hr h⟩

/-! ### The changes of `fsm` (R211) -/

/-- A command in Closed opens the block if it is an OPEN of a known variant whose bring-up succeeds. -/
theorem exec_fsm_of_closed {i : Instr} {s t : State} (hf : s.fsm = .closed) (h : exec i s = .next t) :
    (s.input.initOk = true ∧ IsKnownOpen i → t.fsm = .idle) ∧
    (¬(s.input.initOk = true ∧ IsKnownOpen i) → t.fsm = .closed) := by
  by_cases hi : IsKnownOpen i
  · obtain ⟨arg, rfl⟩ := hi.exists_arg
    obtain ⟨v, hv⟩ := Option.ne_none_iff_exists'.1 ((isKnownOpen_iff arg).1 hi)
    cases hok : s.input.initOk with
    | true =>
      cases (exec_open_of_init_ok hf hv hok).symm.trans h
      exact ⟨fun _ => rfl, fun hn => absurd ⟨rfl, hi⟩ hn⟩
    | false =>
      cases (exec_open_of_init_failure hf hv hok).symm.trans h
      exact ⟨nofun, fun _ => hf⟩
  · refine ⟨fun hn => absurd hn.2 hi, fun _ => ?_⟩
    cases exec_cases h with
    | answer => exact hf
    | initError => exact hf
    | opened _ _ hn => exact absurd hn hi
    | started hn => exact absurd hf hn
    | closed => rfl

/-- The row of Closed in the table of R211. -/
theorem commandStep_fsm_of_closed {s t : State} (hf : s.fsm = .closed) (h : commandStep s = .next t) :
    t.fsm = if s.input.cmdValid = true ∧ s.input.initOk = true ∧
      (s.input.cmd = 0x010B#16 ∨ s.input.cmd = 0x0116#16) then .idle else .closed := by
  have hwords := knownOpen_word_iff s.input.cmd
  rcases commandStep_cases s with ⟨hv, e⟩ | ⟨hv, i, hd, e⟩ | ⟨_, _, hd, e⟩
  · cases e.symm.trans h
    simp [hv, hf]
  · obtain ⟨hopen, hstay⟩ := exec_fsm_of_closed hf (e.symm.trans h)
    simp only [hd, Except.ok.injEq, exists_eq_left'] at hwords
    split_ifs with hc
    · obtain ⟨_, hok, hw⟩ := hc
      exact hopen ⟨hok, hwords.1 hw⟩
    · exact hstay fun ⟨hok, hi⟩ => hc ⟨hv, hok, hwords.2 hi⟩
  · cases e.symm.trans h
    have hw : ¬(s.input.cmd = 0x010B#16 ∨ s.input.cmd = 0x0116#16) := by simp [hwords, hd]
    simp [hw, hf]

/-- A command in Idle other than READ and CLOSE stays there. -/
theorem exec_fsm_of_idle {i : Instr} {s t : State} (hf : s.fsm = .idle) (hread : i ≠ .cmdRead) (hclose : i ≠ .cmdClose)
    (h : exec i s = .next t) : t.fsm = .idle := by
  cases exec_cases h with
  | answer => exact hf
  | initError => exact hf
  | opened => rfl
  | started _ hi => exact absurd hi hread
  | closed _ hi => exact absurd hi hclose

/-- The row of Idle in the table of R211. -/
theorem commandStep_fsm_of_idle {s t : State} (hf : s.fsm = .idle) (h : commandStep s = .next t) :
    t.fsm = if s.input.cmdValid = true ∧ s.input.cmd = 0x0200#16 then .startLow
      else if s.input.cmdValid = true ∧ s.input.cmd = 0x0500#16 then .closed else .idle := by
  simp only [read_word_iff, close_word_iff]
  rcases commandStep_cases s with ⟨hv, e⟩ | ⟨hv, i, hd, e⟩ | ⟨_, _, hd, e⟩
  · cases e.symm.trans h
    simp [hv, hf]
  · have hexec := e.symm.trans h
    simp only [hv, hd, Except.ok.injEq, true_and]
    split_ifs with hread hclose
    · subst hread
      rcases execRead_cases s with ⟨hn, _⟩ | ⟨_, e⟩
      · simp [hf] at hn
      · cases e.symm.trans hexec
        rfl
    · subst hclose
      cases (exec_close_of_idle hf).symm.trans hexec
      rfl
    · exact exec_fsm_of_idle hf hread hclose hexec
  · cases e.symm.trans h
    simp [hd, hf]

/-- The invariant keeps the wait of a handshake at 1 or more, so its last pulse finds `dly` = 1. -/
theorem Inv.dly_le_one_iff {s : State} (h : Inv s) (hf : s.fsm.handshake = true) : s.dly.toNat ≤ 1 ↔ s.dly = 1#32 := by
  have hpos := (h.handshake_dly hf).1
  bv_omega

theorem startLowStep_fsm_of_inv {s : State} (h : Inv s) (hf : s.fsm = .startLow) :
    (startLowStep s).fsm = if s.input.usEn = true ∧ s.dly = 1#32 then .releaseHigh else .startLow := by
  simp only [← h.dly_le_one_iff (by rw [hf]; rfl)]
  rcases startLowStep_cases s with ⟨hu, e⟩ | ⟨hu, hd, e⟩ | ⟨hu, hd, e⟩ <;> rw [e]
  · simp [hu, hf]
  · simp [hd, hf]
  · simp [hu, hd]

theorem releaseHighStep_fsm_of_inv {s : State} (h : Inv s) (hf : s.fsm = .releaseHigh) :
    (releaseHighStep s).fsm = if s.input.usEn = true ∧ s.dly = 1#32 then .poll else .releaseHigh := by
  simp only [← h.dly_le_one_iff (by rw [hf]; rfl)]
  rcases releaseHighStep_cases s with ⟨hu, e⟩ | ⟨hu, hd, e⟩ | ⟨hu, hd, e⟩ <;> rw [e]
  · simp [hu, hf]
  · simp [hd, hf]
  · simp [hu, hd]

/-- Under the invariant the counts that end a pass are the ones of R211. -/
theorem Inv.endsPass_iff {s : State} (h : Inv s) (hf : s.fsm = .poll) (hr : s.input.rst = false) :
    s.EndsPass ↔ s.input.pollEn = true ∧
      ((s.input.lineIn = s.last ∧ s.cnt = 254#8) ∨ (s.input.lineIn ≠ s.last ∧ s.phase = 84#7)) := by
  have hle := h.poll_cnt hf
  have hcnt : 254 ≤ s.cnt.toNat ↔ s.cnt = 254#8 := by bv_omega
  have hphase : s.phase.toNat = 84 ↔ s.phase = 84#7 := by bv_omega
  simp only [State.EndsPass, hf, hr, hcnt, hphase, true_and]

theorem pollStep_fsm_of_not_endsPass {s : State} (hf : s.fsm = .poll) (hr : s.input.rst = false) (h : ¬s.EndsPass) :
    (pollStep s).fsm = .poll := by
  rcases pollStep_cases s with ⟨_, e⟩ | ⟨_, _, _, e⟩ | ⟨hp, hl, hc, _⟩ | ⟨_, _, _, e⟩ | ⟨hp, hl, h84, _⟩
  · rw [e]
    exact hf
  · rw [e]
    exact hf
  · exact absurd ⟨hf, hr, hp, .inl ⟨hl, hc⟩⟩ h
  · rw [e]
    exact hf
  · exact absurd ⟨hf, hr, hp, .inr ⟨hl, h84⟩⟩ h

theorem pollStep_fsm_of_inv {s : State} (h : Inv s) (hf : s.fsm = .poll) (hr : s.input.rst = false) :
    (pollStep s).fsm = if s.input.pollEn = true ∧
        ((s.input.lineIn = s.last ∧ s.cnt = 254#8) ∨ (s.input.lineIn ≠ s.last ∧ s.phase = 84#7)) then
      if s.passOutcome = .valid then .frameReady else .failed
      else .poll := by
  simp only [← h.endsPass_iff hf hr]
  split
  · next hend =>
    cases hend.pollStep_case with
    | valid ho hfsm => rw [hfsm, if_pos ho]
    | failed ho hfsm => rw [hfsm, if_neg ho]
  · next hend => exact pollStep_fsm_of_not_endsPass hf hr hend

/-- Settles O11, by the rows of the table. -/
theorem controlTransfer : Obligations.ControlTransfer := by
  intro s t hinv h
  rcases step_cases s with ⟨hr, e⟩ | ⟨hr, hf, e⟩ | ⟨hr, hf, e⟩ | ⟨hr, hf, e⟩ | ⟨hr, hf, e⟩ | ⟨hr, hf, e⟩
  · cases e.symm.trans h
    rw [if_pos hr]
    rfl
  · rcases (Fsm.resting_iff _).1 hf with hf | hf <;> simp only [hr, hf]
    · exact commandStep_fsm_of_closed hf (e.symm.trans h)
    · exact commandStep_fsm_of_idle hf (e.symm.trans h)
  · cases e.symm.trans h
    simp only [hr, hf]
    exact startLowStep_fsm_of_inv hinv hf
  · cases e.symm.trans h
    simp only [hr, hf]
    exact releaseHighStep_fsm_of_inv hinv hf
  · cases e.symm.trans h
    simp only [hr, hf]
    exact pollStep_fsm_of_inv hinv hf hr
  · cases e.symm.trans h
    rcases hf with hf | hf <;> simp only [hr, hf] <;> rfl

/-! ### READ as one big step (R212) -/

/-- A run uses up one cycle of inputs per step. -/
theorem run_uses_cycles {n : Nat} {s t : State} (h : run n s = .next t) :
    t.inputs = s.inputs.drop n ∧ t.cycle = s.cycle + n := by
  induction n generalizing s with
  | zero =>
    cases h
    exact ⟨rfl, rfl⟩
  | succ n ih =>
    obtain ⟨u, hstep, hinputs, hcycle⟩ := stepAlwaysAnswersNext s
    rw [run_succ_of_next hstep] at h
    obtain ⟨hinputs', hcycle'⟩ := ih h
    exact ⟨by rw [hinputs', hinputs, List.drop_tail], by omega⟩

theorem State.emitted_of_not_poll {s : State} (hf : s.fsm ≠ .poll) : s.emitted = [] := by
  simp [State.emitted, hf]

/-- No Transition is emitted in the handshake. -/
theorem State.Handshaking.trace_emitted {s : State} {hs r : List Inputs} (h : s.Handshaking) (hi : s.inputs = hs ++ r)
    (hr : ∀ i ∈ hs, i.rst = false) (hc : hs.countP (fun i => i.usEn) = s.pulsesLeft)
    (hl : ∀ i ∈ hs.getLast?, i.usEn = true) : trace State.emitted hs.length s = [] := by
  induction hs generalizing s with
  | nil => rfl
  | cons i hs ih =>
    obtain ⟨hri, hrs⟩ := List.forall_mem_cons.1 hr
    have hl' : ∀ j ∈ hs.getLast?, j.usEn = true := fun j hj =>
      hl j (by rw [List.getLast?_cons, Option.mem_def.1 hj]; rfl)
    have hnone : s.emitted = [] :=
      State.emitted_of_not_poll fun hf => absurd h.handshake (by simp [hf, Fsm.handshake])
    rw [countP_cons_toNat] at hc
    rcases h.step_cases hi hri with ⟨hu, hone, hstep⟩ | ⟨t, hstep, ht⟩
    · obtain rfl : hs = [] := eq_nil_of_last_pulse_of_no_pulse hl' (by rw [hu, Bool.toNat_true] at hc; omega)
      rw [List.length_singleton, trace_one, hnone]
    · have hleft := ht.pulsesLeft
      rw [List.length_cons, trace_succ_of_next _ hstep, hnone, ih ht.handshaking ht.inputs hrs (by omega) hl']
      rfl

/-- The registers in Poll hold the variables of `sample_pass`, and no phase has saturated. -/
structure State.Samples (s : State) (p : PassState) : Prop where
  fsm : s.fsm = .poll
  timeout : s.timeout = false
  assembly : s.assembly = p.asm
  phase : s.phase = p.phase
  cnt : s.cnt = p.cnt
  last : s.last = p.last
  streamed : p.Streamed

/-- `s` once its pass has ended with the result `r` and the response is visible. The registers that R212 leaves unnamed,
the inputs and the cycle number are those of `m`. -/
def State.afterPass (s : State) (r : PassResult) (m : State) : State :=
  { s with
    buf := r.buf
    bitcnt := r.bitcnt
    timeout := r.timeout
    cache := if r.outcome = .valid then r.buf else s.cache
    cacheValid := if r.outcome = .valid then true else s.cacheValid
    fsm := if r.outcome = .valid then .frameReady else .failed
    rspValid := true
    rspCode := r.outcome.code.bits
    rspData := r.responseData
    paInit := false
    paShutdown := false
    phase := m.phase
    cnt := m.cnt
    last := m.last
    inputs := m.inputs
    cycle := m.cycle }

theorem State.startPass_listening_samples (s : State) (n : Nat) (r : List Inputs) :
    (s.startPass.listening n r).Samples PassState.start :=
  ⟨rfl, rfl, rfl, rfl, rfl, rfl, PassState.start_streamed⟩

/-- The pass goes on from `s` to `t`, with the variables of `sample_pass` going from `p` to `q`: `s` emits what `q` has
more, and the end of the pass is the same from both. -/
structure State.SamplesOn (s : State) (p : PassState) (t : State) (q : PassState) : Prop where
  samples : t.Samples q
  emits : q.trs = p.trs ++ s.emitted
  afterPass : ∀ r m, t.afterPass r m = s.afterPass r m

section
variable {s : State} {p q : PassState} {r : PassResult}

theorem State.Samples.buf_eq (h : s.Samples p) : s.buf = p.asm.buf := congrArg Assembly.buf h.assembly
theorem State.Samples.bitcnt_eq (h : s.Samples p) : s.bitcnt = p.asm.bitcnt := congrArg Assembly.bitcnt h.assembly

theorem State.Samples.decoded_eq (h : s.Samples p) : s.assembly.decodePhase s.phase s.cnt = p.decoded := by
  rw [h.assembly, h.phase, h.cnt]
  rfl

/-- A cycle of Poll without a poll. -/
theorem State.Samples.nextCycle (h : s.Samples p) (hp : s.input.pollEn = false) : s.SamplesOn p s.nextCycle p where
  samples := ⟨h.fsm, h.timeout, h.assembly, h.phase, h.cnt, h.last, h.streamed⟩
  emits := by simp [State.emitted, hp]
  afterPass _ _ := rfl

/-- In the last phase the frame is complete: its end stores no bit (R138). -/
theorem PassState.Streamed.decoded_of_last_phase (h : p.Streamed) (hp : p.phase.toNat = 84) : p.decoded = p.asm := by
  have hfull : p.asm.bitcnt.toNat = 40 := by
    rw [h.bitcnt, hp, slotsBelow_eq]
    rfl
  rcases p.asm.decodePhase_cases p.phase p.cnt with ⟨_, hlt, _⟩ | ⟨_, e⟩
  · omega
  · exact e

theorem pollSame_of_lt (hc : s.cnt.toNat < 254) : pollSame s = { s.nextCycle with cnt := s.cnt + 1#8 } :=
  (pollSame_eq s).trans (if_pos hc)

theorem pollSame_of_saturated (hc : s.cnt.toNat = 254) : pollSame s = s.endPass (afterSaturation s) :=
  (pollSame_eq s).trans (if_neg hc.not_lt)

theorem pollChanged_of_ne (hp : s.phase.toNat ≠ 84) : pollChanged s = afterPhase s :=
  (pollChanged_eq s).trans (if_neg (mt Nat.succ.inj hp))

theorem pollChanged_of_last_phase (hp : s.phase.toNat = 84) : pollChanged s = s.endPass (afterPhase s) :=
  (pollChanged_eq s).trans (if_pos (congrArg Nat.succ hp))

theorem State.emitted_of_changed_poll (hf : s.fsm = .poll) (hr : s.input.rst = false) (hp : s.input.pollEn = true)
    (hl : s.input.lineIn ≠ s.last) : s.emitted = [⟨s.last, s.cnt, false⟩] := by
  simp [State.emitted, hf, hr, hp, hl]

/-- The end of a pass whose work registers in `u` are the result `r`, already when its last step begins in `s`. -/
theorem State.endPass_eq_afterPass {u : State} (hs : s.assembly = ⟨r.buf, r.bitcnt⟩)
    (hu : u.assembly = ⟨r.buf, r.bitcnt⟩) (ht : u.timeout = r.timeout) (hpulse : u.NoPulse) :
    s.endPass u = u.afterPass r u := by
  have ho : classify s.bitcnt s.buf u.timeout = r.outcome := by
    rw [ht]
    exact congrArg (fun a => classify a.bitcnt a.buf r.timeout) hs
  have hbuf : s.buf = r.buf := congrArg Assembly.buf hs
  have hub : u.buf = r.buf := congrArg Assembly.buf hu
  have hun : u.bitcnt = r.bitcnt := congrArg Assembly.bitcnt hu
  obtain ⟨hinit, hshutdown⟩ := hpulse
  rw [State.endPass_eq, ho, hbuf]
  simp [State.afterPass, PassResult.responseData, ← hub, ← hun, ← ht, hinit, hshutdown]

/-- R116: a poll that does not end the pass is one round of the loop of `sample_pass`. -/
theorem State.Samples.step_goesOn (h : s.Samples p) (hr : s.input.rst = false) (hp : s.input.pollEn = true)
    (hq : p.poll s.input.lineIn = .inl q) : ∃ t, step s = .next t ∧ s.SamplesOn p t q := by
  have hstreamed := h.streamed.next hq
  have hcase := p.poll_cases s.input.lineIn
  rw [hq] at hcase
  cases hcase with
  | counts hw hc =>
    rw [← h.last] at hw
    have hlt : s.cnt.toNat < 254 := by
      rw [h.cnt]
      exact lt_of_le_of_ne h.streamed.cnt_le hc
    refine ⟨_, (step_of_unchanged_poll h.fsm hr hp hw).trans (congrArg _ (pollSame_of_lt hlt)), ?_, ?_, fun _ _ => rfl⟩
    · exact ⟨h.fsm, h.timeout, h.assembly, h.phase, congrArg (· + 1#8) h.cnt, h.last, hstreamed⟩
    · simp [PassState.counted, State.emitted, hw, hlt]
  | endsPhase hw hph =>
    rw [← h.last] at hw
    rw [← h.phase] at hph
    refine ⟨_, (step_of_changed_poll h.fsm hr hp hw).trans (congrArg _ (pollChanged_of_ne hph)), ?_, ?_, fun _ _ => rfl⟩
    · exact ⟨h.fsm, h.timeout, h.decoded_eq, congrArg (· + 1#7) h.phase, rfl, rfl, hstreamed⟩
    · rw [State.emitted_of_changed_poll h.fsm hr hp hw, h.last, h.cnt]
      rfl

/-- R115, R116: the poll that ends the pass answers the result of `sample_pass`. -/
theorem State.Samples.step_ends (h : s.Samples p) (hr : s.input.rst = false) (hp : s.input.pollEn = true)
    (hres : p.poll s.input.lineIn = .inr r) :
    ∃ m, step s = .next (s.afterPass r m) ∧ r.trs = p.trs ++ s.emitted := by
  have hcase := p.poll_cases s.input.lineIn
  rw [hres] at hcase
  cases hcase with
  | saturates hw hc =>
    rw [← h.last] at hw
    rw [← h.cnt] at hc
    have hend : pollSame s = s.afterPass p.saturated (afterSaturation s) :=
      (pollSame_of_saturated hc).trans (State.endPass_eq_afterPass h.assembly h.assembly rfl ⟨rfl, rfl⟩)
    refine ⟨_, (step_of_unchanged_poll h.fsm hr hp hw).trans (congrArg _ hend), ?_⟩
    simp [PassState.saturated, State.emitted, h.fsm, hr, hp, hw, hc, ← h.last]
  | endsPass hw hph =>
    have hfull := h.streamed.decoded_of_last_phase hph
    rw [← h.last] at hw
    rw [← h.phase] at hph
    have hend : pollChanged s = s.afterPass p.finished (afterPhase s) := (pollChanged_of_last_phase hph).trans
      (State.endPass_eq_afterPass (h.assembly.trans hfull.symm) h.decoded_eq h.timeout ⟨rfl, rfl⟩)
    refine ⟨_, (step_of_changed_poll h.fsm hr hp hw).trans (congrArg _ hend), ?_⟩
    rw [State.emitted_of_changed_poll h.fsm hr hp hw, h.last, h.cnt]
    rfl

end

theorem pollSamples_cons_of_poll {i : Inputs} (h : i.pollEn = true) (ps : List Inputs) :
    pollSamples (i :: ps) = i.lineIn :: pollSamples ps := by
  simp [pollSamples, h]

theorem pollSamples_cons_of_no_poll {i : Inputs} (h : i.pollEn = false) (ps : List Inputs) :
    pollSamples (i :: ps) = pollSamples ps := by
  simp [pollSamples, h]

theorem eq_nil_of_last_poll_of_no_sample {ps : List Inputs} (hl : ∀ i ∈ ps.getLast?, i.pollEn = true)
    (hs : pollSamples ps = []) : ps = [] := by
  cases h : ps.getLast? with
  | none => exact List.getLast?_eq_none_iff.1 h
  | some i =>
    have hnone := List.filter_eq_nil_iff.1 (List.map_eq_nil_iff.1 hs) i (List.mem_of_getLast? h)
    exact absurd (hl i h) hnone

/-- From `p`, the last of the samples `ws` ends the pass, with the result `r`. -/
def PassState.EndsWith (p : PassState) (ws : List Level) (r : PassResult) : Prop :=
  p.run ws = some r ∧ r.polls = p.polls + ws.length

/-- Everything a cycle of Poll can do to a pass whose end is known: the pass goes on towards the same end, or this was
the last poll. -/
theorem State.Samples.step_cases {s : State} {p : PassState} {ps : List Inputs} {r : PassResult} (h : s.Samples p)
    (hr : s.input.rst = false) (hend : p.EndsWith (pollSamples (s.input :: ps)) r) :
    (∃ t q, step s = .next t ∧ s.SamplesOn p t q ∧ q.EndsWith (pollSamples ps) r) ∨
    (pollSamples ps = [] ∧ ∃ m, step s = .next (s.afterPass r m) ∧ r.trs = p.trs ++ s.emitted) := by
  obtain ⟨hrun, hpolls⟩ := hend
  cases hp : s.input.pollEn with
  | false =>
    rw [pollSamples_cons_of_no_poll hp] at hrun hpolls
    have hstep := (step_of_poll hr h.fsm).trans (congrArg _ (pollStep_of_no_poll hp))
    exact .inl ⟨_, p, hstep, h.nextCycle hp, hrun, hpolls⟩
  | true =>
    rw [pollSamples_cons_of_poll hp] at hrun hpolls
    rw [List.length_cons] at hpolls
    cases hpoll : p.poll s.input.lineIn with
    | inl q =>
      obtain ⟨t, hstep, ht⟩ := h.step_goesOn hr hp hpoll
      obtain ⟨_, _, hq⟩ := h.streamed.toBounded.next hpoll
      exact .inl ⟨t, q, hstep, ht, (PassState.run_cons_of_next hpoll _).symm.trans hrun, by omega⟩
    | inr u =>
      cases (PassState.run_cons_of_end hpoll _).symm.trans hrun
      obtain ⟨_, hr'⟩ := h.streamed.toBounded.result hpoll
      exact .inr ⟨List.eq_nil_of_length_eq_zero (by omega), h.step_ends hr hp hpoll⟩

/-- R116 over a whole pass: its polls, the last of them in the last cycle, answer its result and emit its
Transitions. -/
theorem State.Samples.run_answers {s : State} {p : PassState} {ps rest : List Inputs} {r : PassResult} (h : s.Samples p)
    (hi : s.inputs = ps ++ rest) (hr : ∀ i ∈ ps, i.rst = false) (hend : p.EndsWith (pollSamples ps) r)
    (hl : ∀ i ∈ ps.getLast?, i.pollEn = true) :
    ∃ m, run ps.length s = .next (s.afterPass r m) ∧ r.trs = p.trs ++ trace State.emitted ps.length s := by
  induction ps generalizing s p with
  | nil => cases hend.1
  | cons i ps ih =>
    obtain ⟨hri, hrs⟩ := List.forall_mem_cons.1 hr
    obtain rfl : s.input = i := State.input_of_cons hi
    have hl' : ∀ j ∈ ps.getLast?, j.pollEn = true := fun j hj =>
      hl j (by rw [List.getLast?_cons, Option.mem_def.1 hj]; rfl)
    rcases h.step_cases hri hend with ⟨t, q, hstep, ht, hq⟩ | ⟨hnone, m, hstep, htrs⟩
    · have hinputs : t.inputs = ps ++ rest := by
        rw [(run_uses_cycles ((run_one s).trans hstep)).1, hi]
        rfl
      obtain ⟨m, hrun, htrs⟩ := ih ht.samples hinputs hrs hq hl'
      refine ⟨m, by rw [List.length_cons, run_succ_of_next hstep, hrun, ht.afterPass], ?_⟩
      rw [htrs, ht.emits, List.append_assoc, List.length_cons, trace_succ_of_next _ hstep]
    · obtain rfl : ps = [] := eq_nil_of_last_poll_of_no_sample hl' hnone
      exact ⟨m, (run_one s).trans hstep, by rw [List.length_singleton, trace_one, htrs]⟩

/-- R212 from the start of the pass on: its handshake and its polls answer its result. -/
theorem State.startPass_run_answers {s : State} {hs ps r : List Inputs} {res : PassResult}
    (hi : s.inputs = hs ++ (ps ++ r)) (hhr : ∀ i ∈ hs, i.rst = false) (hpr : ∀ i ∈ ps, i.rst = false)
    (hcount : hs.countP (fun i => i.usEn) = 20050) (hlast : ∀ i ∈ hs.getLast?, i.usEn = true)
    (hend : PassState.start.EndsWith (pollSamples ps) res) (hlastPoll : ∀ i ∈ ps.getLast?, i.pollEn = true) :
    ∃ m, run (hs.length + ps.length) s.startPass =
        .next ((s.startPass.listening hs.length (ps ++ r)).afterPass res m) ∧
      trace State.emitted (hs.length + ps.length) s.startPass = res.trs := by
  have hpulses := hcount.trans s.startPass_pulsesLeft.symm
  have hlisten := s.startPass_handshaking.run_listening hi hhr hpulses hlast
  obtain ⟨m, hrun, htrs⟩ := (s.startPass_listening_samples hs.length (ps ++ r)).run_answers rfl hpr hend hlastPoll
  refine ⟨m, (run_add hlisten _).trans hrun, ?_⟩
  rw [trace_add _ hlisten, s.startPass_handshaking.trace_emitted hi hhr hpulses hlast, htrs]
  rfl

/-- Settles O39: READ starts the pass, the pulses take it through the handshake, the polls run `sample_pass`, and the
answered pass returns to Idle. -/
theorem readIsOneBigStep : Obligations.ReadIsOneBigStep := by
  intro s c z hs ps rest r hf hcr hcv hcw hhr hpr hz hcount hlast hres hpolls hlastPoll
  have hlastPoll' : ∀ i ∈ ps.getLast?, i.pollEn = true := fun i hi => by simpa [Option.mem_def.1 hi] using hlastPoll
  have hread := step_of_read_idle (s := { s with inputs := c :: (hs ++ (ps ++ z :: rest)) }) hcr hf hcv hcw
  obtain ⟨m, hpass, htrs⟩ := State.startPass_run_answers
    (s := State.nextCycle { s with inputs := c :: (hs ++ (ps ++ z :: rest)) }) rfl hhr hpr hcount
    (last_pulse_of_map hlast) ⟨hres, hpolls.trans (Nat.zero_add _).symm⟩ hlastPoll'
  have hlen : 1 + hs.length + ps.length = hs.length + ps.length + 1 := by omega
  have hrun := (run_succ_of_next hread _).trans hpass
  have hdrop : (c :: (hs ++ (ps ++ z :: rest))).drop (hs.length + ps.length + 1) = z :: rest := by
    rw [List.drop_succ_cons, ← List.append_assoc, ← List.length_append, List.drop_left]
  obtain ⟨hinputs, hcycle⟩ := run_uses_cycles hrun
  have hm : m.inputs = z :: rest := hinputs.trans hdrop
  have hcycle' : s.cycle + hs.length + ps.length + 2 = m.cycle + 1 := by
    have : m.cycle = s.cycle + (hs.length + ps.length + 1) := hcycle
    omega
  rw [hlen, hrun, trace_succ_of_next _ hread, htrs, State.emitted_of_not_poll (by simp [hf])]
  refine ⟨_, _, rfl, rfl, rfl, rfl, rfl, rfl,
    step_of_answered (State.input_of_cons hm ▸ hz) (ite_eq_or_eq _ _ _), ?_⟩
  rw [hcycle', ← show m.inputs.tail = rest from congrArg List.tail hm]
  rfl

end Sys2Proof.Machine
end

section
/-! PROOFS of the family `60_exceptions`: the answer of the saturating poll (O38). -/

namespace Sys2Proof.Machine

theorem PassEndCase.answers {s t : State} (h : PassEndCase s t) :
    t.rspValid = true ∧ t.rspCode = s.passOutcome.code.bits := by
  cases h with
  | valid _ _ hrsp hcode => exact ⟨hrsp, hcode⟩
  | failed _ _ hrsp hcode => exact ⟨hrsp, hcode⟩

@[simp] theorem State.endPass_timeout (s t : State) : (s.endPass t).timeout = t.timeout := by rw [State.endPass_eq]

section
variable {s : State}

/-- The 40 slots are exactly the ones below phase 83. -/
theorem Inv.frameComplete_bitcnt_iff (h : Inv s) (hf : s.fsm = .poll) :
    frameComplete s.bitcnt = true ↔ 83 ≤ s.phase.toNat := by
  rw [frameComplete_iff, h.poll_bitcnt hf, slotsBelow_eq]
  omega

/-- R110: the 255th poll at an unchanged level. -/
theorem pollStep_of_saturation (hp : s.input.pollEn = true) (hl : s.input.lineIn = s.last) (hc : s.cnt = 254#8) :
    pollStep s = s.endPass (afterSaturation s) := by
  have hcnt : s.cnt.toNat = 254 := congrArg BitVec.toNat hc
  simp [pollStep, hp, hl, pollSame_of_saturated hcnt]

/-- R222: up to phase 82 a slot is still missing, so the saturation decides the outcome. -/
theorem Inv.passOutcome_of_early_saturation (h : Inv s) (hf : s.fsm = .poll) (hl : s.input.lineIn = s.last)
    (hphase : s.phase.toNat ≤ 82) : s.passOutcome = .samplingTimeout := by
  have hmissing : frameComplete s.bitcnt = false :=
    Bool.eq_false_iff.2 fun hfull => absurd ((h.frameComplete_bitcnt_iff hf).1 hfull) (by omega)
  exact (classify_timeout_iff _ _ _).2 ⟨hmissing, if_pos hl⟩

/-- R153, R222: from phase 83 on the frame is complete, and the checksum alone decides the outcome. -/
theorem Inv.passOutcome_of_late_phase (h : Inv s) (hf : s.fsm = .poll) (hphase : 83 ≤ s.phase.toNat) :
    s.passOutcome = if validate s.buf = true then .valid else .checksumMismatch := by
  have hfull := (h.frameComplete_bitcnt_iff hf).2 hphase
  split
  · next hv => exact (classify_valid_iff _ _ _).2 ⟨hfull, hv⟩
  · next hv => exact (classify_mismatch_iff _ _ _).2 ⟨hfull, Bool.eq_false_iff.2 hv⟩

end

/-- Settles O38: the saturating poll ends the pass, and whether the 40 slots lie below its phase decides between the timeout
and the checksum. -/
theorem saturationOutcome : Obligations.SaturationOutcome := by
  intro s t hinv hf hr hp hl hc h
  have hend : s.EndsPass := (hinv.endsPass_iff hf hr).2 ⟨hp, .inl ⟨hl, hc⟩⟩
  obtain ⟨_, _, hoe, _, hpull⟩ := pollStep_frame s
  obtain ⟨hrsp, hcode⟩ := hend.pollStep_case.answers
  cases hend.step_eq.symm.trans h
  refine ⟨?_, hrsp, ?_, hpull.trans (hinv.poll_pull hf), fun hphase => ?_, fun hphase => ?_⟩
  · rw [pollStep_of_saturation hp hl hc, State.endPass_timeout]
    rfl
  · rw [hoe, hinv.drive_iff, hf]
    rfl
  · have ho := hinv.passOutcome_of_early_saturation hf hl hphase
    rw [hcode, ho]
    cases hend.pollStep_case with
    | valid hvalid => cases ho.symm.trans hvalid
    | failed _ hfsm _ _ hdata hcache hcacheValid => exact ⟨rfl, hdata, hfsm, hcache, hcacheValid⟩
  · rw [hcode, hinv.passOutcome_of_late_phase hf hphase]
    simp only [validate_iff_toNat]
    split <;> rfl

end Sys2Proof.Machine
end

section
/-! PROOFS of the family `70_reset_and_hazards`: the step that resets (O9). -/

namespace Sys2Proof.Machine

theorem step_of_rst {s : State} (hr : s.input.rst = true) : step s = .next s.applyReset := if_pos hr

theorem State.applyReset_cmdReady (s : State) : s.applyReset.cmdReady = true :=
  (Fsm.resting_iff s.applyReset.fsm).2 (.inl s.applyReset_fsm)

/-- Settles O9: the step is `applyReset`, which copies the values of R32 from `State.reset`. -/
theorem resetStep : Obligations.ResetStep := by
  intro s hr
  obtain ⟨hfsm, hcache, htimeout, hrsp, hoe, hout, hpull, hinit, hshutdown⟩ := resetLeavesSpecValues
  exact ⟨s.applyReset, step_of_rst hr, hfsm, hcache, htimeout, hrsp, hoe, hout, hpull, hinit, hshutdown,
    s.applyReset_cmdReady, s.applyReset_inputs⟩

end Sys2Proof.Machine
end
